-- ==== Sys2Proof/Word.lean ====
section
/-! DEFINITION. The word types of the SC7: a word of exchange memory or of a register is 32 bits (00 Conventions). -/

namespace Sys2Proof

/-- A word: 32 bits (00_scope.md, Words and addresses). -/
abbrev Word := BitVec 32

/-- A byte of exchange memory or of a serial frame. -/
abbrev Byte := BitVec 8

end Sys2Proof
end

