-- ==== Sys2Proof/Syntax.lean ====
section
/-! DEFINITION. The commands of the SC7: one constructor of Instr per row of spec/opcode_table.json, with its operands.
An order of the Order Processor carries no operand: its arguments are words of the page being executed (R160). -/

namespace Sys2Proof

/-- One word of a host write to exchange memory: the data and which of its four bytes are enabled (R148). -/
structure WordWrite where
  data : Word
  enables : BitVec 4
  deriving DecidableEq, Repr, Inhabited

/-- The fields of a REPLY frame (R83, R182). The address occupies bits 3:0 of byte 0. -/
structure ReplyFrame where
  address : BitVec 4
  actualGap : BitVec 16
  force : BitVec 16
  lengthCount : BitVec 16
  ready : Bool
  loaded : Bool
  following : Bool
  opened : Bool
  fault : Bool
  deriving DecidableEq, Repr, Inhabited

/-- The state that a gauge's STATE frame names (R64). -/
inductive GaugeReport where
  | ready
  | standardising
  | shuttered
  | fault
  deriving DecidableEq, Repr, Inhabited

/-- The commands. Numbers of links and gauges are Fin 4: value 0 is link or gauge 1. Pages are numbered 0 to 767. -/
inductive Instr where
  /-- POWER_ON_RESET (R164): RESET_N is asserted and released. -/
  | powerOnReset
  /-- SOFT_RESET (R163): a host write of 1 to SOFT RESET in CONTROL. -/
  | softReset
  /-- PCIE_LINK_RESET (R163): the PCIe link goes down or is reset from the host side. -/
  | pcieLinkReset
  /-- ATTENTION_CLEAR (R150): a host write of data to ATTENTION with the byte enables given. -/
  | attentionClear (data : Word) (enables : BitVec 4)
  /-- REGISTER_WRITE (R149): a host write of data to the register at offset 4 times reg. -/
  | registerWrite (reg : Fin 8) (data : Word) (enables : BitVec 4)
  /-- HOST_MEMORY_WRITE (R152): one host request writing the words from word address start upward. -/
  | hostMemoryWrite (start : BitVec 16) (words : List WordWrite)
  /-- POSTING (R157): a host write of the page's header word carrying POSTED; header gives its other bits. -/
  | posting (page : Fin 768) (header : Word)
  /-- LENDING (R158): a host write of the page's header word carrying LENT; header gives its other bits. -/
  | lending (page : Fin 768) (header : Word)
  /-- PAGE_RELEASE (R155): a host write of the page's header word carrying FREE; header gives its other bits. -/
  | pageRelease (page : Fin 768) (header : Word)
  /-- TAKE (R159): the Order Processor takes the front page of the intake queue. -/
  | take
  /-- ADOPT_TABLES (R8). -/
  | adoptTables
  /-- ADOPTION_COMPLETION (R12, R13): validation has ended. At a first adoption the first slot begins in the completion, or
  slotWaits leaves its beginning to a SLOT_TIMER_EXPIRY, so that the header write may come first (R184, log 11). -/
  | adoptionCompletion (slotWaits : Bool := false)
  /-- ARM_MILL (R19). -/
  | armMill
  /-- DISARM_MILL (R20). -/
  | disarmMill
  /-- SET_SLOT_LENGTH (R81). -/
  | setSlotLength
  /-- ANNOUNCE_COIL (R27). -/
  | announceCoil
  /-- WITHDRAW_COIL (R29). -/
  | withdrawCoil
  /-- SCRAP_COIL (R31). -/
  | scrapCoil
  /-- ADVANCE_STATION (R56). -/
  | advanceStation
  /-- OMIT_GAUGE (R74). -/
  | omitGauge
  /-- RESTORE_GAUGE (R75). -/
  | restoreGauge
  /-- PLAN_GAP (R104, R105). -/
  | planGap
  /-- CANCEL_PLANS (R108). -/
  | cancelPlans
  /-- SET_RELEASE (R111). -/
  | setRelease
  /-- SET_CHANNEL_MODE (R112). -/
  | setChannelMode
  /-- RESET_TRIM (R121). -/
  | resetTrim
  /-- DEFINE_PROFILE (R117). -/
  | defineProfile
  /-- CLEAR_GROUP (R139). -/
  | clearGroup
  /-- CLEAR_CLASS (R141). -/
  | clearClass
  /-- FORCE_TRIP (R144). -/
  | forceTrip
  /-- MASK_SOURCE (R142). -/
  | maskSource
  /-- UNMASK_SOURCE (R143). -/
  | unmaskSource
  /-- FLUSH_REPORTS (R171). -/
  | flushReports
  /-- SLOT_TIMER_EXPIRY (R80, R82): the slot ends, with a frame still in reception or not, and the next begins. -/
  | slotTimerExpiry (inReception : Bool)
  /-- REPLY (R85): a REPLY frame with good CRC has been received on the stand bus. -/
  | reply (frame : ReplyFrame)
  /-- STAND_BUS_BAD_FRAME (R82): a frame with a failing CRC, of another kind or with a field out of range. -/
  | standBusBadFrame
  /-- SAMPLE (R72): a good SAMPLE frame on a gauge link. -/
  | gaugeSample (link : Fin 4) (thickness : BitVec 16) (stripPresent : Bool) (doubtful : Bool)
  /-- STATE (R68): a good STATE frame on a gauge link. -/
  | gaugeState (link : Fin 4) (report : GaugeReport)
  /-- GAUGE_BAD_FRAME (R63). -/
  | gaugeBadFrame (link : Fin 4)
  /-- SILENCE_TIMER_EXPIRY (R67). -/
  | silenceTimerExpiry (gauge : Fin 4)
  /-- STANDARDISE_TIMER_EXPIRY (R69). -/
  | standardiseTimerExpiry (gauge : Fin 4)
  /-- ASSERT (R126): a good ASSERT frame on a protection link. -/
  | assertInput (link : Fin 4) (input : Fin 12)
  /-- DEASSERT (R126): a good DEASSERT frame on a protection link. -/
  | deassertInput (link : Fin 4) (input : Fin 12)
  /-- HEARTBEAT (R125): a good HEARTBEAT frame on a protection link. -/
  | heartbeat (link : Fin 4)
  /-- PROTECTION_BAD_FRAME (R124). -/
  | protectionBadFrame (link : Fin 4)
  /-- LOSS_TIMER_EXPIRY (R125). -/
  | lossTimerExpiry (link : Fin 4)
  /-- RECORD_WRITE (R167). -/
  | recordWrite
  /-- HOLD_TIMER_EXPIRY (R169). -/
  | holdTimerExpiry
  deriving DecidableEq, Repr, Inhabited

end Sys2Proof
end

