-- ==== Sys2Proof/Decode.lean ====
section
/-! DEFINITION. The decoder over spec/opcode_table.json. The table gives bits for none of its 48 rows (spec/98_reader.md:
no row with fixed or fields), so no word spells a command. -/

namespace Sys2Proof

/-- The command that a word spells by the table's bits: none, for no row of the table has bits. -/
def decodeTableWord (_nbits _w : Nat) : Option Instr := none

end Sys2Proof
end

