-- ==== Sys2Proof/Config.lean ====
section
/-! DEFINITION. The numbers that the manual fixes for every SC7, and the one value that it leaves open. -/

namespace Sys2Proof.Config

/-- Places of the coil table (R21). -/
def coilPlaces : Nat := 8
/-- Segment records of the pool (R25). -/
def poolRecords : Nat := 512
/-- Entries a plan list holds at most (R103). -/
def planPlaces : Nat := 16
/-- Pages the intake queue holds at most (R157). -/
def intakePlaces : Nat := 32
/-- Pages the lent list holds at most (R165). -/
def lentPlaces : Nat := 64
/-- Records the holding queue holds at most (R172). -/
def holdingPlaces : Nat := 16
/-- Body words of a page (R155). -/
def bodyWords : Nat := 63
/-- A 16-bit counter keeps this value once it holds it (R2). -/
def counterMax : Nat := 65535
/-- The adoption completes at most this many microseconds after it began (R8). -/
def adoptionLimit : Nat := 2000
/-- The loss timer of a protection link, in microseconds (R125). -/
def lossTime : Nat := 8000
/-- Slots since last grant is held at this number (R84). -/
def grantMax : Nat := 64
/-- The missed count is held at this number, and the drive is LOST at it (R84, R85). -/
def missedMax : Nat := 3
/-- The good count is held at this number (R84). -/
def goodMax : Nat := 2
/-- A ramp stalls when its not-following count reaches this number (R91). -/
def stallCount : Nat := 8
/-- So many consecutive samples change the debounced presence (R72). -/
def debounceCount : Nat := 3
/-- Gaps and forces of a REPLY lie between 0 and this number (R83). -/
def gapMax : Nat := 60000
/-- A deviation is clamped to plus and minus this number (R73). -/
def deviationMax : Int := 5000
/-- Family code of IDENT (R149, R180). -/
def familyCode : Nat := 0x5C7
/-- Device revision of IDENT (R149, R180). -/
def revision : Nat := 0x01
/-- The word "minimum, maximum" of a SEGMENT record for a gauge that took no OK sample of the segment: R179 names the word
and no rule gives its content when both are absent. A free value: nothing is known of it (log 25). The arguments are the
number of the record and the gauge. -/
opaque absentRange : Nat → Nat → BitVec 32

end Sys2Proof.Config
end

