-- ==== Sys2Proof/Machine/Operands.lean ====
section
/-! DEFINITION. The operand forms of the SC7: numbered stores, bit fields of words, byte enables, the page header and the
order word (Chapter 10), counters and times. -/

namespace Sys2Proof.Machine

variable {α : Type}

/-! ## Numbered stores: places, stands, gauges and links are numbered from 1 -/

/-- The entry with number k (1 to n); a default for a number outside the store. -/
def num [Inhabited α] {n : Nat} (v : Vector α n) (k : Nat) : α :=
  if h : 0 < k ∧ k ≤ n then v[k - 1] else default

/-- The store with entry k changed by f; unchanged for a number outside the store. -/
def upd {n : Nat} (v : Vector α n) (k : Nat) (f : α → α) : Vector α n :=
  if h : 0 < k ∧ k ≤ n then v.set (k - 1) (f v[k - 1]) else v

/-- Entry j (from 1) of a list, a default beyond it. -/
def numL [Inhabited α] (l : List α) (j : Nat) : α :=
  if j = 0 then default else l.getD (j - 1) default

/-- The list with entry j (from 1) changed by f. -/
def updL (l : List α) (j : Nat) (f : α → α) : List α :=
  if j = 0 then l else l.modify (j - 1) f

/-- The numbers 1 to n in ascending order. -/
def upTo (n : Nat) : List Nat := (List.range n).map (· + 1)

/-! ## Bit fields -/

/-- Bit i of x, with b written into it. -/
def setBit {n : Nat} (x : BitVec n) (i : Nat) (b : Bool) : BitVec n :=
  if b then x ||| BitVec.twoPow n i else x &&& ~~~ BitVec.twoPow n i

/-- A word with value v in the width bits from bit lo up, and 0 elsewhere. -/
def field (lo width v : Nat) : Word := BitVec.ofNat 32 ((v % 2 ^ width) <<< lo)

/-- The number in the width bits of w from bit lo up. -/
def getField (w : Word) (lo width : Nat) : Nat := (w.toNat >>> lo) % 2 ^ width

/-- A flag as a number. -/
def flag (b : Bool) : Nat := if b then 1 else 0

/-- A flag in bit i of a word. -/
def flagAt (i : Nat) (b : Bool) : Word := field i 1 (flag b)

/-- Two 16-bit values named "a, b": a in bits 15:0 and b in bits 31:16 (R177). -/
def pair (a b : Nat) : Word := field 0 16 a ||| field 16 16 b

/-- A signed value as a 32-bit two's complement word. -/
def signed (v : Int) : Word := BitVec.ofInt 32 v

/-- Two signed 16-bit halves, a low and b high. -/
def signedPair (a b : Int) : Word :=
  pair (BitVec.ofInt 16 a).toNat (BitVec.ofInt 16 b).toNat

/-- Byte i (0 to 3) of a word, byte 0 the least significant. -/
def byteOf (w : Word) (i : Nat) : Byte := w.extractLsb' (8 * i) 8

/-- The word of four bytes, the first the least significant (00 Conventions: little-endian). -/
def wordOf (b0 b1 b2 b3 : Byte) : Word := b3 ++ b2 ++ b1 ++ b0

/-- Byte i of the merge of a write with the current content: enabled bytes from data, the others kept (R148). -/
def mergeByte (data old : Word) (enables : BitVec 4) (i : Nat) : Byte :=
  if enables.getLsbD i then byteOf data i else byteOf old i

/-- The word a host write would produce (R148). -/
def mergeWord (data old : Word) (enables : BitVec 4) : Word :=
  wordOf (mergeByte data old enables 0) (mergeByte data old enables 1)
    (mergeByte data old enables 2) (mergeByte data old enables 3)

/-! ## Counters, clamps and mill time -/

/-- A 16-bit counter rises by one and saturates at 65,535 (R2). -/
def bump (n : Nat) : Nat := if n < Config.counterMax then n + 1 else n

/-- Clamp x to [a, b] (R2). -/
def clampInt (x a b : Int) : Int := if x < a then a else if b < x then b else x

/-- The instant e has come at mill time now: it is not more than half the wrap period ahead (R1). -/
def hasCome (e now : Word) : Bool := decide ((now - e).toNat < 2 ^ 31)

/-- Mill time carried forward to the instant e, or kept when e has come already. -/
def timeAt (e now : Word) : Word := if hasCome e now then now else e

/-! ## The page header (R155, R178, R179) -/

/-- The eight states of a page header. -/
inductive PageState where
  | free
  | posted
  | taken
  | done
  | failed
  | refused
  | lent
  | filled
  deriving DecidableEq, Repr, Inhabited

/-- The number of a page state in bits 3:0 of the header (R155). -/
def PageState.code : PageState → Nat
  | .free => 0
  | .posted => 1
  | .taken => 2
  | .done => 3
  | .failed => 4
  | .refused => 5
  | .lent => 6
  | .filled => 7

/-- The page state that bits 3:0 of a header name; none for a value that is no state (R153). -/
def PageState.ofCode : Nat → Option PageState
  | 0 => some .free
  | 1 => some .posted
  | 2 => some .taken
  | 3 => some .done
  | 4 => some .failed
  | 5 => some .refused
  | 6 => some .lent
  | 7 => some .filled
  | _ => none

/-- The state a header word carries. -/
def headerState (h : Word) : Option PageState := PageState.ofCode (getField h 0 4)

/-- The word count a header word carries (bits 13:8). -/
def headerWordCount (h : Word) : Nat := getField h 8 6

/-- The item index a header word carries (bits 28:16). -/
def headerItem (h : Word) : Nat := getField h 16 13

/-- The result code a header word carries (bits 7:4). -/
def headerResult (h : Word) : Nat := getField h 4 4

/-- The header word with the state field replaced. -/
def withHeaderState (p : PageState) (h : Word) : Word := (h &&& 0xFFFFFFF0#32) ||| field 0 4 p.code

/-- The part owns a page exactly when its header state is POSTED, TAKEN or LENT (R155). -/
def partOwned (h : Word) : Bool :=
  headerState h == some .posted || headerState h == some .taken || headerState h == some .lent

/-- The result codes of a page header (R162). -/
inductive ResultCode where
  | ok
  | badOrder
  | badLength
  | wrongState
  | outOfRange
  | noRoom
  | unknownCoil
  | coilEntered
  | late
  | inUse
  | reportOwed
  | reasserted
  | invalidTable
  | intakeFull
  | reset
  | coilsPresent
  deriving DecidableEq, Repr, Inhabited

/-- The number of a result code (R162). -/
def ResultCode.code : ResultCode → Nat
  | .ok => 0
  | .badOrder => 1
  | .badLength => 2
  | .wrongState => 3
  | .outOfRange => 4
  | .noRoom => 5
  | .unknownCoil => 6
  | .coilEntered => 7
  | .late => 8
  | .inUse => 9
  | .reportOwed => 10
  | .reasserted => 11
  | .invalidTable => 12
  | .intakeFull => 13
  | .reset => 14
  | .coilsPresent => 15

/-- The header word that the part writes (R178, R179): the named fields, 0 in every other bit. -/
def header (state : PageState) (result : ResultCode) (wordCount item : Nat) : Word :=
  field 0 4 state.code ||| field 4 4 result.code ||| field 8 6 wordCount ||| field 16 13 item

/-! ## The order word (R160, R178, R179) -/

/-- Order code, bits 7:0. -/
def orderCode (w : Word) : Nat := getField w 0 8

/-- Argument count, bits 13:8. -/
def orderArgs (w : Word) : Nat := getField w 8 6

/-- MORE, bit 15. -/
def orderMore (w : Word) : Bool := w.getLsbD 15

/-- Bit 14 or one of bits 16 to 31 is set: the order completes with BAD_ORDER (R179). -/
def orderReserved (w : Word) : Bool := w &&& 0xFFFF4000#32 != 0#32

/-- The order codes of R178. -/
def orderCodes : List Nat :=
  [0x01, 0x02, 0x03, 0x04, 0x10, 0x11, 0x12, 0x13, 0x18, 0x19, 0x20, 0x21, 0x22, 0x23, 0x24, 0x25,
    0x30, 0x31, 0x32, 0x33, 0x34, 0x40]

end Sys2Proof.Machine
end

