-- ==== Sys2Proof/Machine/Memory.lean ====
section
/-! DEFINITION. Exchange memory as a list of (byte address, byte) pairs in one canonical form: addresses strictly rising,
no entry 0. An unlisted byte reads 0, the value power-on reset gives it (R164). The status region is not in this list
(Machine/Status.lean, log 22). -/

namespace Sys2Proof.Machine

/-- The bytes of the configuration region and the page region. -/
abbrev Memory := List Host.Cell

/-- The byte at address a. -/
def Memory.read : Memory → Nat → Byte
  | [], _ => 0#8
  | (b, v) :: rest, a => if a < b then 0#8 else if a = b then v else Memory.read rest a

/-- The memory with byte v at address a, in canonical form. -/
def Memory.write : Memory → Nat → Byte → Memory
  | [], a, v => if v = 0#8 then [] else [(a, v)]
  | (b, w) :: rest, a, v =>
    if a < b then (if v = 0#8 then (b, w) :: rest else (a, v) :: (b, w) :: rest)
    else if a = b then (if v = 0#8 then rest else (a, v) :: rest)
    else (b, w) :: Memory.write rest a v

/-- Every listed address is above a. -/
def Memory.above (a : Nat) : Memory → Bool
  | [] => true
  | (b, _) :: _ => decide (a < b)

/-- The canonical form: addresses strictly rising, no entry 0. -/
def Memory.wf : Memory → Bool
  | [] => true
  | (a, v) :: rest => v != 0#8 && Memory.above a rest && Memory.wf rest

/-- The word at word address w occupies byte addresses 4w to 4w + 3, least significant byte first (00 Conventions). -/
def Memory.readWord (m : Memory) (w : Nat) : Word :=
  wordOf (Memory.read m (4 * w)) (Memory.read m (4 * w + 1)) (Memory.read m (4 * w + 2)) (Memory.read m (4 * w + 3))

/-- The memory with v as the word at word address w. -/
def Memory.writeWord (m : Memory) (w : Nat) (v : Word) : Memory :=
  Memory.write (Memory.write (Memory.write (Memory.write m (4 * w) (byteOf v 0)) (4 * w + 1) (byteOf v 1))
    (4 * w + 2) (byteOf v 2)) (4 * w + 3) (byteOf v 3)

/-- The memory with the words vs from word address w upward. -/
def Memory.writeWords (m : Memory) (w : Nat) : List Word → Memory
  | [] => m
  | v :: vs => Memory.writeWords (Memory.writeWord m w v) (w + 1) vs

/-- Word address of body word i of page p (R155). -/
def bodyAddress (p i : Nat) : Nat := 0x4000 + 64 * p + i

/-- Word address of the header of page p (R155). -/
def headerAddress (p : Nat) : Nat := 0x4000 + 64 * p + 63

end Sys2Proof.Machine
end

