-- ==== Sys2Proof/Machine/Blocks.lean ====
section
/-! DEFINITION. The state of the nine blocks (00 Block overview), each as plain data, with its values after reset. -/

namespace Sys2Proof.Machine

/-! ## Working tables (R3, R5) -/

/-- Mill state (R6). -/
inductive MillState where
  | unconfigured
  | ready
  | armed
  deriving DecidableEq, Repr, Inhabited

/-- Channel mode (R99). -/
inductive Mode where
  | gated
  | free
  deriving DecidableEq, Repr, Inhabited

/-- An entry of the station list (R3): a stand, or gauge g. -/
inductive StationKind where
  | stand
  | gauge (g : Nat)
  deriving DecidableEq, Repr, Inhabited

/-- Stand settings (R5). -/
structure StandSettings where
  priority : Nat
  burst : Bool
  initialMode : Mode
  pollInterval : Nat
  gapMin : Nat
  gapMax : Nat
  trimLimit : Nat
  deriving DecidableEq, Repr, Inhabited

/-- Gauge settings (R5): silence time in ms, standardise limit in s, gains in per mille. -/
structure GaugeSettings where
  link : Nat
  silenceTime : Nat
  standardiseLimit : Nat
  feedbackGain : Nat
  feedForwardGain : Nat
  minimumCount : Nat
  deriving DecidableEq, Repr, Inhabited

/-- An entry of the trip map (R128). -/
structure MapEntry where
  group : Nat
  level : Bool
  masked : Bool
  deriving DecidableEq, Repr, Inhabited

/-- The configuration of a trip group (R129): bit k - 1 of the stand set is stand k. -/
structure GroupConfig where
  stands : BitVec 8
  millWide : Bool
  extending : Bool
  cls : Nat
  deriving DecidableEq, Repr, Inhabited

/-- The working tables (R5). Stations are listed 1 to M, stand settings for stands 1 to N. -/
structure Tables where
  slotLength : Nat
  holdTime : Nat
  drainAllowance : Nat
  fairness : Bool
  stations : List StationKind
  stands : List StandSettings
  gauges : Vector GaugeSettings 4
  tripMap : Vector MapEntry 62
  groups : Vector GroupConfig 16
  profiles : Vector (List Nat) 8
  deriving DecidableEq, Repr, Inhabited

/-! ## Mill Clock and Exchange Port -/

/-- The Mill Clock (R1). -/
structure Clock where
  millTime : Word
  deriving DecidableEq, Repr, Inhabited

/-- Reasons of a dropped write (R153, numbered in R177). -/
inductive DropReason where
  | configurationLocked
  | statusRegion
  | partOwnedPage
  | headerState
  | register
  deriving DecidableEq, Repr, Inhabited

/-- The last dropped write (R153): window, address and reason. -/
structure LastDropped where
  registerBlock : Bool
  address : Nat
  reason : DropReason
  deriving DecidableEq, Repr, Inhabited

/-- The Exchange Port (R148 to R158). messagesSent is the model's own count of message interrupts (log 8). -/
structure Port where
  attention : BitVec 6
  enables : BitVec 6
  mem : Memory
  intake : List Nat
  dropped : Nat
  lastDropped : Option LastDropped
  postingsAccepted : Nat
  postingsRefused : Nat
  lendingsAccepted : Nat
  lendingsRefused : Nat
  pagesDone : Nat
  pagesFailed : Nat
  messagesEnabled : Bool
  messagesSent : Nat
  deriving DecidableEq, Repr, Inhabited

/-! ## Order Processor -/

/-- The page being executed: the order it stands at begins at body word `word` and has number `index` (R160). -/
structure Taken where
  page : Nat
  word : Nat
  index : Nat
  deriving DecidableEq, Repr, Inhabited

/-- The Order Processor (R6, R7, R159). adopting holds the mill time at which an adoption in flight began. -/
structure OrderUnit where
  mill : MillState
  tables : Option Tables
  taken : Option Taken
  adopting : Option Word
  firstAdoption : Bool
  adoptionsCompleted : Nat
  adoptionsRefused : Nat
  badWord : Nat
  deriving DecidableEq, Repr, Inhabited

/-! ## Tracking Unit -/

/-- A segment's name: coil id and segment number. -/
structure SegKey where
  coil : Word
  number : Nat
  deriving DecidableEq, Repr, Inhabited

/-- A measurement block (R26); range is the minimum and maximum, absent before the first OK sample. -/
structure MeasBlock where
  count : Nat
  sum : Int
  range : Option (Int × Int)
  doubtful : Nat
  deriving DecidableEq, Repr, Inhabited

/-- A stand block (R26). -/
structure StandBlock where
  target : Option Nat
  gap : Option Nat
  force : Option Nat
  deriving DecidableEq, Repr, Inhabited

/-- A segment record in use (R25). It stands in the span queue that holds it. -/
structure Segment where
  key : SegKey
  shortened : Bool
  tailed : Bool
  advanced : Bool
  meas : Vector MeasBlock 4
  stands : Vector StandBlock 8
  deriving DecidableEq, Repr, Inhabited

/-- Coil states (R23). -/
inductive CoilState where
  | announced
  | rolling
  | ended
  deriving DecidableEq, Repr, Inhabited

/-- A coil record (R21). -/
structure Coil where
  id : Word
  seq : Word
  segCount : Nat
  lengths : List Nat
  thicknesses : List Nat
  state : CoilState
  shortenedSeen : Bool
  scrapped : Bool
  inSpans : Nat
  reported : Nat
  shortened : Nat
  deriving DecidableEq, Repr, Inhabited

/-- Items of the exit list (R33). -/
inductive ExitItem where
  | segment (key : SegKey)
  | coilDone (coil : Word)
  deriving DecidableEq, Repr, Inhabited

/-- The state of a station with the fields that belong to it (R38): the three forms of DRAINING are tail drain (bite
coil, drain check, drain length), untracked, and awaiting (bite coil). -/
inductive StationForm where
  | empty
  | threaded (bite : SegKey) (accumulator : Nat)
  | tailDrain (coil : Word) (check : Bool) (length : Nat)
  | untracked
  | awaiting (coil : Word)
  deriving DecidableEq, Repr, Inhabited

/-- A station record (R38) with its counters (R62). For a stand station the feeding stand is the stand itself. -/
structure Station where
  kind : StationKind
  feeding : Nat
  form : StationForm
  lastPassed : Nat
  closedCoil : Option Word
  loaded : Bool
  transparent : Bool
  biteEntries : Nat
  passages : Nat
  earlyTails : Nat
  mismatches : Nat
  awaits : Nat
  deriving DecidableEq, Repr, Inhabited

/-- The Tracking Unit (R21 to R36, R38, R41). -/
structure Tracking where
  coils : Vector (Option Coil) 8
  counter : Word
  accepted : Nat
  refusedNoRoom : Nat
  stations : List Station
  spans : List (List Segment)
  exits : List ExitItem
  deriving DecidableEq, Repr, Inhabited

/-! ## Gauge Link Unit -/

/-- Gauge states (R65). -/
inductive GaugeState where
  | absent
  | waiting
  | ready
  | standardising
  | shuttered
  | fault
  | silent
  | omitted
  deriving DecidableEq, Repr, Inhabited

/-- The most recent taken sample (R65). -/
structure LastSample where
  thickness : Nat
  stripPresent : Bool
  doubtful : Bool
  time : Word
  deriving DecidableEq, Repr, Inhabited

/-- A gauge record (R65). A timer is its expiry time while it runs. -/
structure Gauge where
  state : GaugeState
  link : Option Nat
  station : Option Nat
  silence : Option Word
  standardise : Option Word
  debounce : Nat
  present : Bool
  last : Option LastSample
  samples : Nat
  doubtful : Nat
  discarded : Nat
  badFrames : Nat
  deriving DecidableEq, Repr, Inhabited

/-- The counters of a gauge link (R63). -/
structure GaugeLink where
  good : Nat
  bad : Nat
  deriving DecidableEq, Repr, Inhabited

/-! ## Stand Bus Controller -/

/-- Answering states of a drive (R84). -/
inductive Answering where
  | unknown
  | answering
  | lost
  deriving DecidableEq, Repr, Inhabited

/-- Requests a channel presents (R89). -/
inductive Request where
  | none
  | opening
  | step
  | poll
  deriving DecidableEq, Repr, Inhabited

/-- The most recent accepted reply (R84). -/
structure LastReply where
  gap : Nat
  force : Nat
  length : BitVec 16
  ready : Bool
  loaded : Bool
  following : Bool
  opened : Bool
  fault : Bool
  time : Word
  deriving DecidableEq, Repr, Inhabited

/-- A drive record (R84) with the request presented at the latest slot beginning (R98). -/
structure Drive where
  answering : Answering
  missed : Nat
  good : Nat
  last : Option LastReply
  sinceGrant : Nat
  baseline : BitVec 16
  baselineValid : Bool
  sent : Nat
  accepted : Nat
  missedTotal : Nat
  lostEntries : Nat
  presented : Request
  granted : Bool
  deriving DecidableEq, Repr, Inhabited

/-- Request frames of the stand bus (R83). -/
inductive RequestFrame where
  | setpoint (address target : Nat)
  | opening (address : Nat)
  | poll (address : Nat)
  deriving DecidableEq, Repr, Inhabited

/-- What decided a slot (R82). -/
inductive SlotOutcome where
  | good
  | missed
  deriving DecidableEq, Repr, Inhabited

/-- The slot in progress (R82): the stand addressed and the frame sent, and what has decided it. -/
structure Slot where
  request : Option (Nat × RequestFrame)
  decided : Option SlotOutcome
  deriving DecidableEq, Repr, Inhabited

/-- The Stand Bus Controller (R80 to R98). Entry k of waits is channel k's set W while it waits (R94). firstLength is the
model's own field (log 11): the length of the first slot from the first adoption's completion to that slot's beginning,
where the beginning waits. -/
structure Bus where
  slotTimer : Option Word
  firstLength : Option Nat
  slot : Option Slot
  owner : Option Nat
  waits : Vector (Option (BitVec 8)) 8
  emptySlots : Nat
  badFrames : Nat
  wrongAddress : Nat
  strays : Nat
  drives : Vector Drive 8
  deriving DecidableEq, Repr, Inhabited

/-! ## Gap Channels -/

/-- Channel states (R99). -/
inductive ChannelState where
  | absent
  | recovering
  | idle
  | ramping
  | opening
  | opened
  deriving DecidableEq, Repr, Inhabited

/-- A plan entry (R103): due is the DUE state, its absence WAITING. The key (0, 0) is a plan for now. -/
structure PlanEntry where
  key : SegKey
  target : Nat
  profile : Nat
  steps : Nat
  due : Bool
  deriving DecidableEq, Repr, Inhabited

/-- A ramp (R113) with its pacing (R90) and not-following count (R91). -/
structure Ramp where
  start : Nat
  final : Nat
  profile : Nat
  steps : Nat
  sent : Nat
  stepDue : Bool
  followingAwaited : Bool
  notFollowing : Nat
  deriving DecidableEq, Repr, Inhabited

/-- A stand channel (R99). -/
structure Channel where
  state : ChannelState
  mode : Mode
  plans : List PlanEntry
  ramp : Option Ramp
  planTarget : Nat
  planValue : Nat
  feedback : Int
  feedForward : Int
  effective : Nat
  lastSent : Nat
  release : Bool
  clamp : Bool
  rampsStarted : Nat
  rampsCompleted : Nat
  stalls : Nat
  clamps : Nat
  plansLapsed : Nat
  strikes : Nat
  deriving DecidableEq, Repr, Inhabited

/-! ## Protection Unit -/

/-- A protection link record (R125). -/
structure ProtectionLink where
  up : Bool
  loss : Option Word
  good : Nat
  bad : Nat
  losses : Nat
  deriving DecidableEq, Repr, Inhabited

/-- A snapshot entry (R134). -/
structure SnapEntry where
  stand : Nat
  bite : Option SegKey
  reply : Option (Nat × Nat)
  deriving DecidableEq, Repr, Inhabited

/-- A group record (R129). -/
structure Group where
  config : GroupConfig
  latched : Bool
  firstCause : Option Nat
  causes : BitVec 62
  latchTime : Word
  struck : BitVec 8
  owed : Bool
  snapshot : List SnapEntry
  latches : Nat
  deriving DecidableEq, Repr, Inhabited

/-- The Protection Unit (R124 to R147): standRun bit k - 1 is STAND RUN k. -/
structure Protection where
  links : Vector ProtectionLink 4
  sources : BitVec 62
  groups : Vector Group 16
  standRun : BitVec 8
  millRun : Bool
  deriving DecidableEq, Repr, Inhabited

/-! ## Report Writer -/

/-- Kinds of tracking irregularity (R55). -/
inductive TrackKind where
  | headUnexpected
  | overrun
  | earlyTail
  | advanced
  deriving DecidableEq, Repr, Inhabited

/-- Event records of the holding queue (R172), with their content fixed when the event raised them. -/
inductive EventRecord where
  | track (station : Nat) (kind : TrackKind) (coil : Word) (segment : Nat) (time : Word)
  | gauge (gauge : Nat) (state : GaugeState) (time : Word)
  | stall (stand lastSent gap : Nat) (time : Word)
  | clamp (stand : Nat) (sum : Int) (limit : Nat) (time : Word)
  | warning (source group : Nat) (time : Word)
  deriving DecidableEq, Repr, Inhabited

/-- The Report Writer (R165 to R173). The front page of the lent list is the current page. -/
structure Reports where
  lent : List Nat
  wordCount : Nat
  recordCount : Nat
  hold : Option Word
  queue : List EventRecord
  returned : Nat
  written : Nat
  lost : Nat
  deriving DecidableEq, Repr, Inhabited

/-! ## The blocks together -/

/-- The state of the nine blocks. -/
structure Blocks where
  clock : Clock
  port : Port
  orders : OrderUnit
  tracking : Tracking
  gauges : Vector Gauge 4
  gaugeLinks : Vector GaugeLink 4
  bus : Bus
  channels : Vector Channel 8
  protection : Protection
  reports : Reports
  deriving DecidableEq, Repr, Inhabited

/-- N, the stand count of the working tables; 0 when there are none. -/
def Tables.standCount (t : Tables) : Nat := t.stations.countP (· == .stand)

/-- M, the station count of the working tables. -/
def Tables.stationCount (t : Tables) : Nat := t.stations.length

/-! ## Values after reset -/

/-- A gauge record after reset (R66). -/
def Gauge.fresh : Gauge where
  state := .absent
  link := none
  station := none
  silence := none
  standardise := none
  debounce := 0
  present := false
  last := none
  samples := 0
  doubtful := 0
  discarded := 0
  badFrames := 0

/-- A drive record after reset (R84, R98). -/
def Drive.fresh : Drive where
  answering := .unknown
  missed := 0
  good := 0
  last := none
  sinceGrant := Config.grantMax
  baseline := 0#16
  baselineValid := false
  sent := 0
  accepted := 0
  missedTotal := 0
  lostEntries := 0
  presented := .none
  granted := false

/-- A stand channel after reset (R99). -/
def Channel.fresh : Channel where
  state := .absent
  mode := .gated
  plans := []
  ramp := none
  planTarget := 0
  planValue := 0
  feedback := 0
  feedForward := 0
  effective := 0
  lastSent := 0
  release := false
  clamp := false
  rampsStarted := 0
  rampsCompleted := 0
  stalls := 0
  clamps := 0
  plansLapsed := 0
  strikes := 0

/-- A protection link record after reset (R125). -/
def ProtectionLink.fresh : ProtectionLink where
  up := false
  loss := none
  good := 0
  bad := 0
  losses := 0

/-- An empty group configuration (R129). -/
def GroupConfig.fresh : GroupConfig where
  stands := 0#8
  millWide := false
  extending := false
  cls := 0

/-- A group record after reset (R129). -/
def Group.fresh : Group where
  config := GroupConfig.fresh
  latched := false
  firstCause := none
  causes := 0#62
  latchTime := 0#32
  struck := 0#8
  owed := false
  snapshot := []
  latches := 0

/-- Field sources 0 to 47 asserted, internal sources 48 to 61 clear (R147). -/
def sourcesAtReset : BitVec 62 := BitVec.ofNat 62 (2 ^ 48 - 1)

/-- The blocks after power-on reset. -/
def Blocks.reset : Blocks where
  clock := { millTime := 0#32 }
  port :=
    { attention := 0#6, enables := 0#6, mem := [], intake := [], dropped := 0, lastDropped := none,
      postingsAccepted := 0, postingsRefused := 0, lendingsAccepted := 0, lendingsRefused := 0,
      pagesDone := 0, pagesFailed := 0, messagesEnabled := true, messagesSent := 0 }
  orders :=
    { mill := .unconfigured, tables := none, taken := none, adopting := none, firstAdoption := true,
      adoptionsCompleted := 0, adoptionsRefused := 0, badWord := 0 }
  tracking :=
    { coils := Vector.replicate 8 none, counter := 1#32, accepted := 0, refusedNoRoom := 0,
      stations := [], spans := [], exits := [] }
  gauges := Vector.replicate 4 Gauge.fresh
  gaugeLinks := Vector.replicate 4 { good := 0, bad := 0 }
  bus :=
    { slotTimer := none, firstLength := none, slot := none, owner := none, waits := Vector.replicate 8 none, emptySlots := 0,
      badFrames := 0, wrongAddress := 0, strays := 0, drives := Vector.replicate 8 Drive.fresh }
  channels := Vector.replicate 8 Channel.fresh
  protection :=
    { links := Vector.replicate 4 ProtectionLink.fresh, sources := sourcesAtReset,
      groups := Vector.replicate 16 Group.fresh, standRun := 0#8, millRun := false }
  reports :=
    { lent := [], wordCount := 0, recordCount := 0, hold := none, queue := [], returned := 0, written := 0, lost := 0 }

end Sys2Proof.Machine
end

