-- ==== Sys2Proof/Machine/Status.lean ====
section
/-! DEFINITION. The status region, words 0x2000 to 0x3FFF: the 110 status records of R176, one per slot of 16 words in
address order, and what each shows of the blocks (R177). A record is its body, the words between the two copies of its
update count, and the count (R154). -/

namespace Sys2Proof.Machine

/-- A status record as it stands in the status region: the update count of word 0 and the last word, and the words between. -/
structure StatusRecord where
  count : Word
  body : List Word
  deriving DecidableEq, Repr, Inhabited

namespace Status

/-! ## Codes shown in status words (R177) -/

/-- Mill state codes. -/
def millCode : MillState → Nat
  | .unconfigured => 0
  | .ready => 1
  | .armed => 2

/-- Reason codes of the last dropped write. -/
def reasonCode : DropReason → Nat
  | .configurationLocked => 1
  | .statusRegion => 2
  | .partOwnedPage => 3
  | .headerState => 4
  | .register => 5

/-- Coil place codes; a free place shows 0. -/
def coilCode : CoilState → Nat
  | .announced => 1
  | .rolling => 2
  | .ended => 3

/-- Gauge state codes. -/
def gaugeCode : GaugeState → Nat
  | .absent => 0
  | .waiting => 1
  | .ready => 2
  | .standardising => 3
  | .shuttered => 4
  | .fault => 5
  | .silent => 6
  | .omitted => 7

/-- Answering state codes. -/
def answeringCode : Answering → Nat
  | .unknown => 0
  | .answering => 1
  | .lost => 2

/-- Request codes. -/
def requestCode : Request → Nat
  | .none => 0
  | .opening => 1
  | .step => 2
  | .poll => 3

/-- Channel state codes. -/
def channelCode : ChannelState → Nat
  | .absent => 0
  | .recovering => 1
  | .idle => 2
  | .ramping => 3
  | .opening => 4
  | .opened => 5

/-- State code of a station: EMPTY, THREADED or DRAINING. -/
def stationCode : StationForm → Nat
  | .empty => 0
  | .threaded _ _ => 1
  | .tailDrain _ _ _ => 2
  | .untracked => 2
  | .awaiting _ => 2

/-- Form code of a station. -/
def formCode : StationForm → Nat
  | .empty => 0
  | .threaded _ _ => 0
  | .tailDrain _ _ _ => 1
  | .untracked => 2
  | .awaiting _ => 3

end Status

/-! ## Fields of a station record (R38) -/

/-- The bite: present when THREADED. -/
def Station.bite (s : Station) : Option SegKey :=
  match s.form with
  | .threaded b _ => some b
  | .empty | .tailDrain _ _ _ | .untracked | .awaiting _ => none

/-- The accumulator: 0 whenever the station is not THREADED. -/
def Station.accumulator (s : Station) : Nat :=
  match s.form with
  | .threaded _ a => a
  | .empty | .tailDrain _ _ _ | .untracked | .awaiting _ => 0

/-- The bite coil: of the bite, of the tail drain, or awaited. -/
def Station.biteCoil (s : Station) : Option Word :=
  match s.form with
  | .threaded b _ => some b.coil
  | .tailDrain c _ _ => some c
  | .awaiting c => some c
  | .empty | .untracked => none

/-- The drain check: on only in tail drain. -/
def Station.drainCheck (s : Station) : Bool :=
  match s.form with
  | .tailDrain _ c _ => c
  | .empty | .threaded _ _ | .untracked | .awaiting _ => false

/-- The drain length. -/
def Station.drainLength (s : Station) : Nat :=
  match s.form with
  | .tailDrain _ _ d => d
  | .empty | .threaded _ _ | .untracked | .awaiting _ => 0

/-- Set only in the awaiting form. -/
def Station.isAwaiting (s : Station) : Bool :=
  match s.form with
  | .awaiting _ => true
  | .empty | .threaded _ _ | .tailDrain _ _ _ | .untracked => false

/-! ## Conditions of a channel that a status record shows -/

/-- IDLE and RAMPING are the running states (Chapter 6). -/
def ChannelState.running : ChannelState → Bool
  | .idle => true
  | .ramping => true
  | .absent | .recovering | .opening | .opened => false

/-- A correction is due in IDLE whenever the effective target differs from the last sent value (R119). -/
def Channel.correctionDue (c : Channel) : Bool := c.state == .idle && c.effective != c.lastSent

/-- In FREE mode the release flag means that a re-send is due (R110). -/
def Channel.resendDue (c : Channel) : Bool := c.mode == .free && c.release

namespace Status

/-! ## The bodies of the records (R177) -/

/-- Mill status. -/
def mill (b : Blocks) : List Word :=
  let o := b.orders
  [ field 0 2 (millCode o.mill) ||| flagAt 2 o.adopting.isSome |||
      field 8 4 ((o.tables.map Tables.standCount).getD 0) ||| field 16 4 ((o.tables.map Tables.stationCount).getD 0),
    pair o.adoptionsCompleted o.adoptionsRefused,
    field 0 13 o.badWord ]

/-- Port status. -/
def port (b : Blocks) : List Word :=
  let p := b.port
  [ field 0 16 p.dropped ||| field 16 3 ((p.lastDropped.map (fun d => reasonCode d.reason)).getD 0) |||
      flagAt 20 ((p.lastDropped.map LastDropped.registerBlock).getD false),
    field 0 16 ((p.lastDropped.map LastDropped.address).getD 0),
    pair p.postingsAccepted p.postingsRefused,
    pair p.lendingsAccepted p.lendingsRefused,
    pair p.pagesDone p.pagesFailed ]

/-- Report writer status. -/
def reportWriter (b : Blocks) : List Word :=
  let r := b.reports
  [ field 0 7 r.lent.length ||| field 8 5 r.queue.length ||| flagAt 16 (!r.lent.isEmpty) ||| flagAt 17 r.hold.isSome,
    field 0 10 (r.lent.headD 0) ||| field 16 6 r.wordCount ||| field 24 6 r.recordCount,
    r.hold.getD 0#32,
    pair r.returned r.written,
    field 0 16 r.lost ]

/-- Segment records in use: the sum of the lengths of all span queues (R25). -/
def poolUsed (t : Tracking) : Nat := (t.spans.map List.length).sum

/-- Coils in the table. -/
def coilsUsed (t : Tracking) : Nat := t.coils.toList.countP Option.isSome

/-- Tracking summary. -/
def trackingSummary (b : Blocks) : List Word :=
  let t := b.tracking
  [ field 0 10 (poolUsed t) ||| field 10 10 t.exits.length ||| field 20 4 (coilsUsed t),
    t.counter,
    pair t.accepted t.refusedNoRoom ]

/-- Coil place; a free place shows 0 everywhere (R36). -/
def coilPlace : Option Coil → List Word
  | none => [0#32, 0#32, 0#32, 0#32]
  | some c =>
    [ c.id, c.seq,
      field 0 2 (coilCode c.state) ||| flagAt 4 c.shortenedSeen ||| flagAt 5 c.scrapped |||
        field 8 8 c.segCount ||| field 16 8 c.inSpans,
      field 0 8 c.reported ||| field 8 8 c.shortened ]

/-- Station place; a place above M shows 0 everywhere (R62). -/
def stationPlace : Option Station → List Word
  | none => [0#32, 0#32, 0#32, 0#32, 0#32, 0#32, 0#32, 0#32]
  | some s =>
    let kind := match s.kind with
      | .stand => field 0 2 1 ||| field 4 4 s.feeding
      | .gauge g => field 0 2 2 ||| field 4 4 g
    [ kind ||| field 8 4 s.feeding ||| field 12 2 (stationCode s.form) ||| field 14 2 (formCode s.form) |||
        flagAt 16 s.loaded ||| flagAt 17 s.transparent ||| field 24 8 s.lastPassed,
      (s.bite.map SegKey.coil).getD 0#32,
      field 0 16 s.accumulator ||| field 16 8 ((s.bite.map SegKey.number).getD 0),
      s.biteCoil.getD 0#32,
      s.closedCoil.getD 0#32,
      pair (min s.drainLength 65535) s.biteEntries,
      pair s.passages s.earlyTails,
      pair s.mismatches s.awaits ]

/-- Span; a span that does not exist shows count 0 and front 0 (R177). -/
def span (q : List Segment) : List Word :=
  [ field 0 10 q.length ||| field 16 8 ((q.head?.map (fun x => x.key.number)).getD 0),
    (q.head?.map (fun x => x.key.coil)).getD 0#32 ]

/-- Gauge. -/
def gauge (g : Gauge) : List Word :=
  [ field 0 4 (gaugeCode g.state) ||| field 4 4 (g.link.getD 0) ||| field 8 4 (g.station.getD 0) |||
      flagAt 12 g.present ||| field 13 2 g.debounce ||| flagAt 16 g.last.isSome |||
      flagAt 17 ((g.last.map LastSample.stripPresent).getD false) |||
      flagAt 18 ((g.last.map LastSample.doubtful).getD false),
    field 0 16 ((g.last.map LastSample.thickness).getD 0),
    (g.last.map LastSample.time).getD 0#32,
    pair g.samples g.doubtful,
    pair g.discarded g.badFrames ]

/-- Gauge link status. -/
def gaugeLinks (b : Blocks) : List Word := b.gaugeLinks.toList.map (fun l => pair l.good l.bad)

/-- Sets W of four stands, one byte each (R177). That the lowest-numbered stand has bits 7:0 is the model's choice: the table
does not order the bytes (log 34). -/
def waitWord (b : Bus) (first : Nat) : Word :=
  let w (i : Nat) : Nat := ((num b.waits (first + i)).getD 0#8).toNat
  field 0 8 (w 0) ||| field 8 8 (w 1) ||| field 16 8 (w 2) ||| field 24 8 (w 3)

/-- The wait flags, bit k - 1 for stand k. -/
def waitFlags (b : Bus) : Nat :=
  ((upTo 8).map (fun k => if (num b.waits k).isSome then 2 ^ (k - 1) else 0)).sum

/-- Stand bus status. -/
def standBus (b : Blocks) : List Word :=
  [ field 0 10 ((b.orders.tables.map Tables.slotLength).getD 0) |||
      flagAt 12 ((b.orders.tables.map Tables.fairness).getD false) ||| field 16 4 (b.bus.owner.getD 0) |||
      field 24 8 (waitFlags b.bus),
    waitWord b.bus 1,
    waitWord b.bus 5,
    pair b.bus.emptySlots b.bus.badFrames,
    pair b.bus.wrongAddress b.bus.strays ]

/-- Drive. Which of bits 31:27 of word 1 holds which flag is the model's choice: READY bit 27 up to FAULT bit 31, in the
order of the REPLY frame's byte 7; the table lists the five flags against the range (log 34). -/
def drive (d : Drive) : List Word :=
  let l (f : LastReply → Bool) : Bool := (d.last.map f).getD false
  [ field 0 2 (answeringCode d.answering) ||| field 2 2 d.missed ||| field 4 2 d.good |||
      field 8 2 (requestCode d.presented) ||| flagAt 10 d.granted ||| field 16 7 d.sinceGrant |||
      flagAt 24 d.baselineValid ||| flagAt 25 d.last.isSome ||| flagAt 27 (l LastReply.ready) |||
      flagAt 28 (l LastReply.loaded) ||| flagAt 29 (l LastReply.following) ||| flagAt 30 (l LastReply.opened) |||
      flagAt 31 (l LastReply.fault),
    pair d.baseline.toNat ((d.last.map (fun r => r.length.toNat)).getD 0),
    pair ((d.last.map LastReply.gap).getD 0) ((d.last.map LastReply.force).getD 0),
    (d.last.map LastReply.time).getD 0#32,
    pair d.sent d.accepted,
    pair d.missedTotal d.lostEntries ]

/-- Channel. -/
def channel (c : Channel) : List Word :=
  let due := c.plans.find? (fun e => e.due)
  let front := c.plans.find? (fun e => !e.due)
  let r (f : Ramp → Nat) : Nat := (c.ramp.map f).getD 0
  [ field 0 3 (channelCode c.state) ||| flagAt 4 (c.mode == .free) ||| flagAt 5 c.release ||| flagAt 6 c.clamp |||
      flagAt 7 c.correctionDue ||| flagAt 8 c.resendDue ||| flagAt 9 c.ramp.isSome ||| field 16 5 c.plans.length,
    pair c.planTarget c.planValue,
    pair c.effective c.lastSent,
    signedPair c.feedback c.feedForward,
    pair (r Ramp.start) (r Ramp.final),
    field 0 4 (r Ramp.profile) ||| field 8 7 (r Ramp.steps) ||| field 16 7 (r Ramp.sent) |||
      flagAt 24 ((c.ramp.map Ramp.stepDue).getD false) ||| flagAt 25 ((c.ramp.map Ramp.followingAwaited).getD false) |||
      field 28 4 (r Ramp.notFollowing),
    (due.map (fun e => e.key.coil)).getD 0#32,
    field 0 8 ((due.map (fun e => e.key.number)).getD 0) ||| field 8 8 ((front.map (fun e => e.key.number)).getD 0),
    (front.map (fun e => e.key.coil)).getD 0#32,
    field 0 16 ((front.map PlanEntry.target).getD 0) ||| field 16 4 ((front.map PlanEntry.profile).getD 0) |||
      field 24 7 ((front.map PlanEntry.steps).getD 0),
    pair c.rampsStarted c.rampsCompleted,
    pair c.stalls c.clamps,
    pair c.plansLapsed c.strikes ]

/-- Protection link status: two words a link. -/
def protectionLinks (b : Blocks) : List Word :=
  (b.protection.links.toList.map (fun l => [flagAt 0 l.up ||| field 16 16 l.losses, pair l.good l.bad])).flatten

/-- Sources 0 to 31 of a set of sources. That source s has bit s mod 32 of its word is the model's choice: R177 does not order
the bits (log 34). -/
def sourcesLow (x : BitVec 62) : Word := BitVec.ofNat 32 x.toNat

/-- Sources 32 to 61 of a set of sources (log 34). -/
def sourcesHigh (x : BitVec 62) : Word := BitVec.ofNat 32 (x.toNat >>> 32)

/-- The set of sources whose map entry has a property; empty while there is no working map. -/
def mapSet (b : Blocks) (f : MapEntry → Bool) : BitVec 62 :=
  match b.orders.tables with
  | none => 0#62
  | some t =>
    BitVec.ofNat 62 (((List.range 62).map (fun s => if f (num t.tripMap (s + 1)) then 2 ^ s else 0)).sum)

/-- The groups of sources 8i to 8i + 7, four bits each. -/
def groupWord (b : Blocks) (i : Nat) : Word :=
  match b.orders.tables with
  | none => 0#32
  | some t =>
    BitVec.ofNat 32 (((List.range 8).map (fun j => ((num t.tripMap (8 * i + j + 1)).group % 16) <<< (4 * j))).sum)

/-- Source status. -/
def sourceStatus (b : Blocks) : List Word :=
  let masked := mapSet b MapEntry.masked
  let modes := mapSet b MapEntry.level
  [ sourcesLow b.protection.sources, sourcesHigh b.protection.sources, sourcesLow masked, sourcesHigh masked,
    sourcesLow modes, sourcesHigh modes ] ++ (List.range 8).map (groupWord b)

/-- Group. -/
def group (g : Group) : List Word :=
  [ flagAt 0 g.latched ||| flagAt 1 g.owed ||| field 2 2 g.config.cls ||| flagAt 4 g.config.millWide |||
      flagAt 5 g.config.extending ||| field 8 8 g.config.stands.toNat ||| field 16 6 (g.firstCause.getD 63) |||
      field 24 8 g.struck.toNat,
    sourcesLow g.causes,
    sourcesHigh g.causes,
    g.latchTime,
    field 0 16 g.latches ]

/-- The three words of one stand in a snapshot record. -/
def snapStand (g : Group) (k : Nat) : List Word :=
  match g.snapshot.find? (fun e => e.stand == k) with
  | none => [0#32, 0#32, 0#32]
  | some e =>
    [ (e.bite.map SegKey.coil).getD 0#32,
      field 0 8 ((e.bite.map SegKey.number).getD 0) ||| flagAt 8 true ||| flagAt 9 e.reply.isSome,
      pair ((e.reply.map Prod.fst).getD 0) ((e.reply.map Prod.snd).getD 0) ]

/-- Snapshot of a group, stands first to first + 3. -/
def snapshot (g : Group) (first : Nat) : List Word :=
  [ g.latchTime, field 0 16 g.latches ||| field 16 4 first ] ++
    snapStand g first ++ snapStand g (first + 1) ++ snapStand g (first + 2) ++ snapStand g (first + 3)

/-- Trip line record. That STAND RUN k has bit k - 1 is the model's choice: R177 does not order bits 7:0 (log 34). -/
def tripLines (b : Blocks) : List Word :=
  [ field 0 8 b.protection.standRun.toNat ||| flagAt 8 b.protection.millRun ]

/-- The bodies of all records, in the order of their slots (R176). -/
def bodies (b : Blocks) : Vector (List Word) 110 :=
  (#v[mill b, port b, reportWriter b, trackingSummary b] : Vector (List Word) 4) ++
  b.tracking.coils.map coilPlace ++
  (Vector.ofFn (fun j : Fin 12 => stationPlace (b.tracking.stations[j.val]?))) ++
  (Vector.ofFn (fun j : Fin 13 => span (b.tracking.spans.getD j.val []))) ++
  b.gauges.map gauge ++
  (#v[gaugeLinks b, standBus b] : Vector (List Word) 2) ++
  b.bus.drives.map drive ++
  b.channels.map channel ++
  (#v[protectionLinks b, sourceStatus b] : Vector (List Word) 2) ++
  b.protection.groups.map group ++
  (Vector.ofFn (fun i : Fin 32 =>
    snapshot (num b.protection.groups (i.val / 2 + 1)) (if i.val % 2 = 0 then 1 else 5))) ++
  (#v[tripLines b] : Vector (List Word) 1)

/-! ## Slots of the records, counted from 0x2000 in steps of 16 words (R176) -/

/-- Slot of the mill status record. -/
def millSlot : Nat := 0
/-- Slot of the port status record. -/
def portSlot : Nat := 1
/-- Slot of the report writer status record. -/
def reportSlot : Nat := 2
/-- Slot of group g's record. -/
def groupSlot (g : Nat) : Nat := 61 + g
/-- Slot of the first of group g's two snapshot records. -/
def snapshotSlot (g : Nat) : Nat := 77 + 2 * g

/-- A record rewritten with new content: its update count rises by one (R154). -/
def rewrite (r : StatusRecord) (body : List Word) : StatusRecord := { count := r.count + 1#32, body := body }

/-- A record rewritten if any of its fields changed. -/
def refresh (r : StatusRecord) (body : List Word) : StatusRecord := if r.body = body then r else rewrite r body

/-- Every record written whole with update count 1, as at the end of every reset (R154). -/
def fresh (b : Blocks) : Vector StatusRecord 110 := (bodies b).map (fun w => { count := 1#32, body := w })

/-- The words of a record as they stand in its slot: the count, the body, the count (R154, R177). -/
def words (r : StatusRecord) : List Word := r.count :: r.body ++ [r.count]

/-- The status word at word address 0x2000 + i: a word outside the records reads 0 (R177). -/
def readWord (st : Vector StatusRecord 110) (i : Nat) : Word :=
  if i / 16 < 110 then (words (num st (i / 16 + 1))).getD (i % 16) 0#32 else 0#32

end Status

end Sys2Proof.Machine
end

