-- ==== Sys2Proof/Machine/State.lean ====
section
/-! DEFINITION. The state of the SC7: the nine blocks, the status region and the queue of waiting commands. -/

namespace Sys2Proof.Machine

/-- The state. Plain data: lists, vectors, numbers and bit vectors. -/
structure State extends Blocks where
  /-- The status region: the 110 status records in slot order (R176). -/
  status : Vector StatusRecord 110
  /-- The model's own count of SEGMENT records written, which tells the free values of Config.absentRange apart (log 25). -/
  unstated : Nat
  /-- The commands waiting, first in, first out. -/
  pending : List Instr
  deriving DecidableEq, Repr

/-- Why a step stops with a fault. -/
inductive Fault where
  /-- Raised by HOST_MEMORY_WRITE: a host request that runs past the last word of BAR1. Safe: no such access reaches
  exchange memory, and the model stops (log 10). -/
  | outsideExchangeMemory
  deriving DecidableEq, Repr

/-- Why a command is refused. -/
inductive Refusal where
  /-- Raised by an arm of exec whose command has no meaning yet. Safe: the model stops. -/
  | notModelled (mnemonic : String)
  deriving DecidableEq, Repr

/-- The outcome of a step. -/
abbrev Result := Host.Outcome State Fault Refusal

/-- The machine after power-on reset (R164): every block at its reset values, the status region written with them, and
no command waiting. -/
def State.reset : State where
  toBlocks := Blocks.reset
  status := Status.fresh Blocks.reset
  unstated := 0
  pending := []

end Sys2Proof.Machine
end

