-- ==== Sys2Proof/Machine/Flags.lean ====
section
/-! DEFINITION. One update function per block of the state, the attention bits with the message interrupt (R150, R151),
the rewriting of status records (R154) and the trip lines as their conditions give them (R136, R137). -/

namespace Sys2Proof.Machine

/-! ## Block updates -/

/-- s with the clock c. -/
def State.setClock (s : State) (c : Clock) : State := { s with clock := c }
/-- s with the port p. -/
def State.setPort (s : State) (p : Port) : State := { s with port := p }
/-- s with the Order Processor o. -/
def State.setOrders (s : State) (o : OrderUnit) : State := { s with orders := o }
/-- s with the Tracking Unit t. -/
def State.setTracking (s : State) (t : Tracking) : State := { s with tracking := t }
/-- s with the gauge records g. -/
def State.setGauges (s : State) (g : Vector Gauge 4) : State := { s with gauges := g }
/-- s with the gauge links l. -/
def State.setGaugeLinks (s : State) (l : Vector GaugeLink 4) : State := { s with gaugeLinks := l }
/-- s with the Stand Bus Controller b. -/
def State.setBus (s : State) (b : Bus) : State := { s with bus := b }
/-- s with the stand channels c. -/
def State.setChannels (s : State) (c : Vector Channel 8) : State := { s with channels := c }
/-- s with the Protection Unit p. -/
def State.setProtection (s : State) (p : Protection) : State := { s with protection := p }
/-- s with the Report Writer r. -/
def State.setReports (s : State) (r : Reports) : State := { s with reports := r }
/-- s with the status region t. -/
def State.setStatus (s : State) (t : Vector StatusRecord 110) : State := { s with status := t }
/-- s with the count of free values n. -/
def State.setUnstated (s : State) (n : Nat) : State := { s with unstated := n }
/-- s with the queue of commands q. -/
def State.setPending (s : State) (q : List Instr) : State := { s with pending := q }

/-- s with channel k changed by f. -/
def State.onChannel (s : State) (k : Nat) (f : Channel → Channel) : State := s.setChannels (upd s.channels k f)
/-- s with drive record k changed by f. -/
def State.onDrive (s : State) (k : Nat) (f : Drive → Drive) : State :=
  s.setBus { s.bus with drives := upd s.bus.drives k f }
/-- s with gauge record g changed by f. -/
def State.onGauge (s : State) (g : Nat) (f : Gauge → Gauge) : State := s.setGauges (upd s.gauges g f)
/-- s with protection link record l changed by f. -/
def State.onLink (s : State) (l : Nat) (f : ProtectionLink → ProtectionLink) : State :=
  s.setProtection { s.protection with links := upd s.protection.links l f }
/-- s with group record g (0 to 15) changed by f. -/
def State.onGroup (s : State) (g : Nat) (f : Group → Group) : State :=
  s.setProtection { s.protection with groups := upd s.protection.groups (g + 1) f }
/-- s with station record j changed by f. -/
def State.onStation (s : State) (j : Nat) (f : Station → Station) : State :=
  s.setTracking { s.tracking with stations := updL s.tracking.stations j f }

/-! ## Attention (R150) and the message interrupt (R151) -/

/-- The six attention bits. -/
inductive Attention where
  | order
  | report
  | trip
  | warning
  | dropped
  | reportLost
  deriving DecidableEq, Repr, Inhabited

/-- The place of an attention bit in ATTENTION (R180). -/
def Attention.bit : Attention → Nat
  | .order => 0
  | .report => 1
  | .trip => 2
  | .warning => 3
  | .dropped => 4
  | .reportLost => 5

/-- The attention bit is set. -/
def State.attentionIs (s : State) (a : Attention) : Bool := s.port.attention.getLsbD a.bit

/-- A message is sent when the bit goes from clear to set while it is enabled and the endpoint's messages are (R151). -/
def State.sendsMessage (s : State) (a : Attention) : Bool :=
  !s.attentionIs a && s.port.enables.getLsbD a.bit && s.port.messagesEnabled

/-- The event of an attention bit sets it (R150), sending a message as R151 gives. -/
def State.raise (s : State) (a : Attention) : State :=
  s.setPort { s.port with
    attention := setBit s.port.attention a.bit true
    messagesSent := if s.sendsMessage a then s.port.messagesSent + 1 else s.port.messagesSent }

/-! ## Status records (R154, R177) -/

/-- The record of a slot is rewritten if any of its fields has changed. -/
def State.publish (s : State) (slot : Nat) : State :=
  s.setStatus (upd s.status (slot + 1) (fun r => Status.refresh r (num (Status.bodies s.toBlocks) (slot + 1))))

/-- The record of a slot is rewritten, changed or not. -/
def State.rewriteSlot (s : State) (slot : Nat) : State :=
  s.setStatus (upd s.status (slot + 1) (fun r => Status.rewrite r (num (Status.bodies s.toBlocks) (slot + 1))))

/-- Every record whose fields have changed is rewritten, each once (R154, log 7). -/
def State.publishAll (s : State) : State :=
  s.setStatus (Vector.zipWith Status.refresh s.status (Status.bodies s.toBlocks))

/-- At every latch and clearance of a group its record and both snapshot records are rewritten, in ascending address
(R177). -/
def State.rewriteGroup (s : State) (g : Nat) : State :=
  ((s.rewriteSlot (Status.groupSlot g)).rewriteSlot (Status.snapshotSlot g)).rewriteSlot (Status.snapshotSlot g + 1)

/-! ## Trip lines (R136, R137) -/

/-- The mill is READY or ARMED. -/
def State.configured (s : State) : Bool := s.orders.mill != .unconfigured

/-- Stand k is in the struck set of a latched group. -/
def State.struckByAny (s : State) (k : Nat) : Bool :=
  s.protection.groups.toList.any (fun g => g.latched && g.struck.getLsbD (k - 1))

/-- A latched group holds MILL RUN: its mill-wide flag was set at its latch (R137). -/
def State.millHeld (s : State) : Bool := s.protection.groups.toList.any (fun g => g.latched && g.config.millWide)

/-- The condition of STAND RUN k (R136). -/
def State.standMayRun (s : State) (k : Nat) : Bool :=
  s.configured && (num s.channels k).state.running && !s.struckByAny k

/-- The condition of MILL RUN (R137). -/
def State.millMayRun (s : State) : Bool := s.configured && !s.millHeld

/-- STAND RUN 1 to 8 as their conditions give them. -/
def State.standLines (s : State) : BitVec 8 :=
  (upTo 8).foldl (fun x k => setBit x (k - 1) (s.standMayRun k)) 0#8

/-- The trip lines set by their conditions. -/
def State.setLines (s : State) : State :=
  s.setProtection { s.protection with standRun := s.standLines, millRun := s.millMayRun }

/-- The end of a step: the lines stand as their conditions give them and every changed record has been rewritten. -/
def State.settle (s : State) : State := s.setLines.publishAll

/-- A step that completes in the state s. -/
def completes (s : State) : Result := .next s.settle

end Sys2Proof.Machine
end

