-- ==== Sys2Proof/Machine/Ops.lean ====
section
/-! DEFINITION. The named operations over exchange memory, page headers, the working tables and the records that several
blocks read: one operation each, from the rule that gives it. -/

namespace Sys2Proof.Machine

/-! ## Mill time and the working tables -/

/-- Mill time. -/
def State.now (s : State) : Word := s.clock.millTime

/-- The mill time an interval of so many microseconds from now. -/
def State.after (s : State) (us : Nat) : Word := s.now + BitVec.ofNat 32 us

/-- Mill time stands at the instant e or later: the event of a timer armed for e (R1, log 2). -/
def State.advanceTo (s : State) (e : Word) : State := s.setClock { millTime := timeAt e s.now }

/-- N, the stand count; 0 while there are no working tables. -/
def State.standCount (s : State) : Nat := (s.orders.tables.map Tables.standCount).getD 0

/-- M, the station count; 0 while there are no working tables. -/
def State.stationCount (s : State) : Nat := (s.orders.tables.map Tables.stationCount).getD 0

/-- The number of STAND entries among station list entries 1 to j: the feeding stand of station j (R4). -/
def Tables.feeding (t : Tables) (j : Nat) : Nat := (t.stations.take j).countP (· == .stand)

/-- s(k), the station index of stand k (R3); 0 if there is none. -/
def Tables.stationOfStand (t : Tables) (k : Nat) : Nat :=
  ((upTo t.stationCount).find? (fun j => numL t.stations j == .stand && t.feeding j == k)).getD 0

/-- The station index of gauge g; none if the gauge is not named (R3). -/
def Tables.stationOfGauge (t : Tables) (g : Nat) : Option Nat :=
  (upTo t.stationCount).find? (fun j => numL t.stations j == .gauge g)

/-- Gauge g is named in the station list (R3). -/
def Tables.named (t : Tables) (g : Nat) : Bool := (t.stationOfGauge g).isSome

/-- Settings of stand k. -/
def State.standSettings (s : State) (k : Nat) : StandSettings :=
  (s.orders.tables.map (fun t => numL t.stands k)).getD default

/-- Settings of gauge g. -/
def State.gaugeSettings (s : State) (g : Nat) : GaugeSettings :=
  (s.orders.tables.map (fun t => num t.gauges g)).getD default

/-- s(k); 0 if there is none. -/
def State.stationOfStand (s : State) (k : Nat) : Nat :=
  (s.orders.tables.map (fun t => t.stationOfStand k)).getD 0

/-- The gauges named in the working station list, in ascending number. -/
def State.namedGauges (s : State) : List Nat :=
  match s.orders.tables with
  | none => []
  | some t => (upTo 4).filter t.named

/-! ## Page headers -/

/-- The header word of page p. -/
def State.headerOf (s : State) (p : Nat) : Word := Memory.readWord s.port.mem (headerAddress p)

/-- A write of one word of exchange memory outside the status region. -/
def State.storeWord (s : State) (w : Nat) (v : Word) : State :=
  s.setPort { s.port with mem := Memory.writeWord s.port.mem w v }

/-- A page header written by the part (R155). -/
def State.writeHeader (s : State) (p : Nat) (h : Word) : State := s.storeWord (headerAddress p) h

/-! ## The holding queue (R172) -/

/-- An event record handed to the holding queue joins it, or is discarded when it holds 16: reports lost rises, the
record of the Report Writer is rewritten, and REPORT_LOST is set. -/
def State.pushEvent (s : State) (e : EventRecord) : State :=
  let r := s.reports
  if r.queue.length < Config.holdingPlaces then
    (s.setReports { r with queue := r.queue ++ [e] }).publish Status.reportSlot
  else
    ((s.setReports { r with lost := bump r.lost }).rewriteSlot Status.reportSlot).raise .reportLost

/-! ## Coils and segments by name -/

/-- The coil with an id, if it is in the coil table (R21). -/
def State.coilById (s : State) (id : Word) : Option Coil :=
  (s.tracking.coils.toList.find? (fun c => (c.map Coil.id) == some id)).getD none

/-- The coil with an id changed by f. -/
def State.onCoil (s : State) (id : Word) (f : Coil → Coil) : State :=
  s.setTracking { s.tracking with
    coils := s.tracking.coils.map (fun c => c.map (fun c => if c.id = id then f c else c)) }

/-- Span queue j. -/
def State.span (s : State) (j : Nat) : List Segment := s.tracking.spans.getD j []

/-- Station record j. -/
def State.station (s : State) (j : Nat) : Station := numL s.tracking.stations j

/-- The segment record in use with a key. -/
def State.segment (s : State) (key : SegKey) : Option Segment :=
  s.tracking.spans.flatten.find? (fun g => g.key == key)

/-- The span index of the segment with a key. -/
def State.spanIndex (s : State) (key : SegKey) : Option Nat :=
  s.tracking.spans.findIdx? (fun q => q.any (fun g => g.key == key))

/-- The segment record with a key changed by f, wherever it stands. -/
def State.onSegment (s : State) (key : SegKey) (f : Segment → Segment) : State :=
  s.setTracking { s.tracking with
    spans := s.tracking.spans.map (fun q => q.map (fun g => if g.key = key then f g else g)) }

/-- Of two announcement sequences, a is the earlier (R22). -/
def seqEarlier (a b : Word) : Bool := 1 ≤ (b - a).toNat && (b - a).toNat ≤ 2147483647

/-- The mean deviation of a measurement block, truncated toward zero (Chapter 4, Corrections from measurements). -/
def MeasBlock.mean (m : MeasBlock) : Int := m.sum.tdiv m.count

end Sys2Proof.Machine
end

