-- ==== Sys2Proof/Machine/Channels.lean ====
section
/-! DEFINITION. The Gap Channels (Chapter 6): effective target, plans, firing, ramps, trims, strike and unstrike, and what
a channel does with an accepted reply. -/

namespace Sys2Proof.Machine

/-- Stand channel k. -/
def State.channel (s : State) (k : Nat) : Channel := num s.channels k

/-- Burst ownership ends if channel k holds it (R93). -/
def State.endOwnership (s : State) (k : Nat) : State :=
  if s.bus.owner = some k then s.setBus { s.bus with owner := none } else s

/-! ## Effective target and clamp flag (R118, R120) -/

/-- The unclamped sum of current plan value and trims. -/
def Channel.sum (c : Channel) : Int := c.planValue + c.feedback + c.feedForward

/-- The sum lies beyond the gap limits (R120). -/
def StandSettings.beyond (t : StandSettings) (x : Int) : Bool := decide (x < t.gapMin) || decide ((t.gapMax : Int) < x)

/-- The limit that a sum beyond the limits is held to. -/
def StandSettings.limit (t : StandSettings) (x : Int) : Nat := if x < t.gapMin then t.gapMin else t.gapMax

/-- The channel with its effective target and clamp flag judged anew. -/
def Channel.retarget (t : StandSettings) (c : Channel) : Channel :=
  { c with effective := (clampInt c.sum t.gapMin t.gapMax).toNat, clamp := t.beyond c.sum }

/-- The effects of a clamp that begins (R120). -/
def State.clampBegins (s : State) (k : Nat) (sum : Int) (limit : Nat) : State :=
  ((s.pushEvent (.clamp k sum limit s.now)).raise .warning).onChannel k
    (fun c => { c with clamps := bump c.clamps })

/-- The effective target of a running channel is recomputed (R118) and the clamp flag judged on it (R120). -/
def State.recompute (s : State) (k : Nat) : State :=
  let c := s.channel k
  let t := s.standSettings k
  if c.state.running then
    let s1 := s.onChannel k (Channel.retarget t)
    if t.beyond c.sum && !c.clamp then s1.clampBegins k c.sum (t.limit c.sum) else s1
  else s

/-! ## Plan lists (R103) -/

/-- The key of a plan made for now. -/
def nowKey : SegKey := { coil := 0#32, number := 0 }

/-- The announcement sequence of a key's coil. -/
def State.seqOf (s : State) (key : SegKey) : Word := ((s.coilById key.coil).map Coil.seq).getD 0#32

/-- Key a stands before key b in a plan list (R103). -/
def State.planBefore (s : State) (a b : SegKey) : Bool :=
  if a = nowKey then true
  else if b = nowKey then false
  else if a.coil = b.coil then decide (a.number < b.number)
  else seqEarlier (s.seqOf a) (s.seqOf b)

/-- An entry inserted at its place in the list order. -/
def State.insertPlan (s : State) (l : List PlanEntry) (e : PlanEntry) : List PlanEntry :=
  l.takeWhile (fun x => s.planBefore x.key e.key) ++ e :: l.dropWhile (fun x => s.planBefore x.key e.key)

/-- After a ramp start, lapse, removal or cancel: the release flag clears in GATED mode when the list is empty (R110). -/
def Channel.clearIfEmpty (c : Channel) : Channel :=
  if c.mode = .gated ∧ c.plans = [] then { c with release := false } else c

/-- The channel with a ramp started from an entry, which leaves the list if it stood there (R109, R113). -/
def Channel.startRamp (e : PlanEntry) (c : Channel) : Channel :=
  Channel.clearIfEmpty
    { c with
      state := .ramping
      plans := c.plans.filter (fun x => x.key != e.key)
      ramp := some { start := c.planValue, final := e.target, profile := e.profile, steps := e.steps, sent := 0,
                     stepDue := true, followingAwaited := false, notFollowing := 0 }
      rampsStarted := bump c.rampsStarted }

/-- A firing starts its ramp at once in FREE mode, or in GATED mode with the release flag set (R109). -/
def Channel.startsAtOnce (c : Channel) : Bool := c.mode == .free || c.release

/-- A WAITING entry of the list becomes DUE, and any other DUE entry is removed (R109). -/
def Channel.becomeDue (e : PlanEntry) (c : Channel) : Channel :=
  let kept := c.plans.filter (fun x => x.key == e.key || !x.due)
  { c with plans := kept.map (fun x => if x.key = e.key then { x with due := true } else x) }

/-- A WAITING entry of channel k's list fires (R109). -/
def State.fireWaiting (s : State) (k : Nat) (e : PlanEntry) : State :=
  if (s.channel k).startsAtOnce then s.onChannel k (Channel.startRamp e)
  else s.onChannel k (Channel.becomeDue e)

/-- The list in which an entry made DUE at once takes its place (R109): that of the DUE entry it replaces, or its own in
the list order; none if the list holds 16 entries and none is DUE. -/
def State.placeDue (s : State) (l : List PlanEntry) (e : PlanEntry) : Option (List PlanEntry) :=
  let keep (x : PlanEntry) : Bool := !x.due && x.key != e.key
  let d : PlanEntry := { e with due := true }
  if l.any (fun x => x.due) then
    some ((l.takeWhile (fun x => !x.due)).filter keep ++ d :: ((l.dropWhile (fun x => !x.due)).drop 1).filter keep)
  else if l.length < Config.planPlaces then some (s.insertPlan (l.filter keep) d)
  else none

/-- A plan fires at once when it is made (R105, R109): OK, or NO_ROOM with nothing changed. -/
def State.fireNow (s : State) (k : Nat) (e : PlanEntry) : State × ResultCode :=
  if (s.channel k).startsAtOnce then (s.onChannel k (Channel.startRamp e), .ok)
  else
    match s.placeDue (s.channel k).plans e with
    | some l => (s.onChannel k (fun c => { c with plans := l }), .ok)
    | none => (s, .noRoom)

/-- The entries of a list that satisfy p leave it; if any did, R110 decides whether the release flag clears (R107). -/
def Channel.removeWhere (p : PlanEntry → Bool) (c : Channel) : Channel :=
  if c.plans.any p then Channel.clearIfEmpty { c with plans := c.plans.filter (fun x => !p x) } else c

/-- A removal at the request of the Tracking Unit: every entry, in every list, that satisfies p (R107). -/
def State.removePlans (s : State) (p : PlanEntry → Bool) : State :=
  s.setChannels (s.channels.map (Channel.removeWhere p))

/-- The passage of a segment lapses the entry with its key (R107). -/
def Channel.lapse (key : SegKey) (c : Channel) : Channel :=
  if c.plans.any (fun x => x.key == key) then
    { Channel.removeWhere (fun x => x.key == key) c with plansLapsed := bump c.plansLapsed }
  else c

/-! ## Trims (R77, R78) -/

/-- A trim of the correction −d × gain ÷ 1,000, truncated toward zero. -/
def correction (d : Int) (gain : Nat) : Int := (-d * gain).tdiv 1000

/-- A value clamped to plus and minus the trim limit. -/
def clampTrim (t : StandSettings) (x : Int) : Int := clampInt x (-(t.trimLimit : Int)) t.trimLimit

/-- The feed-forward trim of channel k at a bite entry (R78). -/
def State.feedForwardValue (s : State) (k : Nat) (key : SegKey) : Int :=
  match (s.station (s.stationOfStand k - 1)).kind with
  | .stand => 0
  | .gauge g =>
    let m := ((s.segment key).map (fun x => num x.meas g)).getD default
    let t := s.gaugeSettings g
    if s.stationOfStand k ≤ 1 then 0
    else if t.minimumCount ≤ m.count ∧ m.count ≠ 0 then
      clampTrim (s.standSettings k) (correction m.mean t.feedForwardGain)
    else 0

/-- The feed-forward trim is set at a bite entry, in a running channel (R78, R106). -/
def State.setFeedForward (s : State) (k : Nat) (key : SegKey) : State :=
  let v := s.feedForwardValue k key
  if (s.channel k).state.running ∧ (s.channel k).feedForward ≠ v then
    (s.onChannel k (fun c => { c with feedForward := v })).recompute k
  else s

/-- The conditions of a feedback correction on the segment and the channel (R77). -/
def State.feedbackHolds (s : State) (g k : Nat) (m : MeasBlock) : Bool :=
  decide ((s.gaugeSettings g).minimumCount ≤ m.count) && decide (m.count ≠ 0) && (s.channel k).state.running

/-- A NORMAL passage at gauge g's station corrects the feedback trim of the feeding stand k (R77). -/
def State.feedback (s : State) (g k : Nat) (key : SegKey) : State :=
  let m := ((s.segment key).map (fun x => num x.meas g)).getD default
  if s.feedbackHolds g k m then
    let v := clampTrim (s.standSettings k)
      ((s.channel k).feedback + correction m.mean (s.gaugeSettings g).feedbackGain)
    if (s.channel k).feedback = v then s
    else (s.onChannel k (fun c => { c with feedback := v })).recompute k
  else s

/-! ## Bite entry (R106) -/

/-- The effective target is written as the segment's target at entry, by a running channel (R106). -/
def State.recordTarget (s : State) (k : Nat) (key : SegKey) : State :=
  if (s.channel k).state.running then
    s.onSegment key (fun x =>
      { x with stands := upd x.stands k (fun b => { b with target := some (s.channel k).effective }) })
  else s

/-- Channel k takes a bite entry: firing, feed-forward, record (R106). -/
def State.biteEntry (s : State) (k : Nat) (key : SegKey) : State :=
  let s1 := match (s.channel k).plans.find? (fun e => !e.due && e.key == key) with
    | some e => s.fireWaiting k e
    | none => s
  (s1.setFeedForward k key).recordTarget k key

/-! ## Ramp steps (R114, R115) -/

/-- Point Pj of a profile, P0 = 0 (R114). -/
def point (points : List Nat) (j : Nat) : Nat := if j = 0 then 0 else points.getD (j - 1) 0

/-- The fraction F of step i of a user profile, in per mille (R114). -/
def fraction (points : List Nat) (steps i : Nat) : Nat :=
  let q := steps / 8
  let j := (i - 1) / q + 1
  let r := (i - 1) % q + 1
  point points (j - 1) + (point points j - point points (j - 1)) * r / q

/-- The plan value of step i (R114). -/
def Ramp.value (points : List Nat) (r : Ramp) (i : Nat) : Nat :=
  let span : Int := (r.final : Int) - r.start
  if r.profile = 9 then r.final
  else if r.profile = 8 then ((r.start : Int) + (span * i).tdiv r.steps).toNat
  else ((r.start : Int) + (span * fraction points r.steps i).tdiv 1000).toNat

/-- The points of working profile p. -/
def State.profile (s : State) (p : Nat) : List Nat := (s.orders.tables.map (fun t => num t.profiles (p + 1))).getD []

/-- The pacing of a ramp after a step of it has been sent (R90). -/
def Ramp.paced (burst : Bool) (r : Ramp) : Ramp :=
  if burst then { r with stepDue := true, followingAwaited := false }
  else { r with stepDue := false, followingAwaited := true }

/-- The SETPOINT takes the effective target; in FREE mode a re-send is settled (R115). -/
def Channel.sendTarget (c : Channel) : Channel :=
  { c with lastSent := c.effective, release := if c.mode = .free then false else c.release }

/-- The ramp ends with its last step: plan target B, IDLE (R115). -/
def Channel.endRamp (r : Ramp) (c : Channel) : Channel :=
  { c with state := .idle, planTarget := r.final, ramp := none, rampsCompleted := bump c.rampsCompleted }

/-- A ramp step is sent at the slot beginning that channel k won with STEP (R115). -/
def State.sendRampStep (s : State) (k : Nat) (r : Ramp) : State :=
  let i := r.sent + 1
  let burst := (s.standSettings k).burst
  let s1 := (s.onChannel k (fun c => { c with
      planValue := r.value (s.profile r.profile) i
      ramp := some { r with sent := i } })).recompute k
  let s2 := s1.onChannel k (fun c => { Channel.sendTarget c with ramp := some (Ramp.paced burst { r with sent := i }) })
  if i = r.steps then (s2.onChannel k (Channel.endRamp r)).endOwnership k else s2

/-- A STEP won while IDLE sends a correction or a re-send (R115). -/
def State.sendCorrection (s : State) (k : Nat) : State := (s.recompute k).onChannel k Channel.sendTarget

/-- A STEP won by channel k is sent. -/
def State.sendStep (s : State) (k : Nat) : State :=
  match (s.channel k).ramp with
  | some r => s.sendRampStep k r
  | none => s.sendCorrection k

/-! ## Replies (R90, R91, R100, R116) -/

/-- The pacing and the not-following count of a ramp after an accepted reply (R90, R91). -/
def Ramp.takeReply (following : Bool) (r : Ramp) : Ramp :=
  if following then
    { r with notFollowing := 0
             stepDue := r.stepDue || r.followingAwaited
             followingAwaited := false }
  else { r with notFollowing := r.notFollowing + 1 }

/-- A stall of channel k on a reply with the given actual gap (R116). -/
def State.stall (s : State) (k gap : Nat) : State :=
  let s1 := ((s.onChannel k (fun c => { c with
      ramp := none, planTarget := c.planValue, state := .idle, release := false })).endOwnership k).recompute k
  ((s1.pushEvent (.stall k (s1.channel k).lastSent gap s1.now)).raise .warning).onChannel k
    (fun c => { c with stalls := bump c.stalls })

/-- Entry to IDLE from RECOVERING on a reply with READY set and FAULT clear (R100). -/
def State.recover (s : State) (k gap : Nat) : State :=
  (s.onChannel k (fun c => { c with
      state := .idle, planTarget := gap, planValue := gap, feedback := 0, feedForward := 0, lastSent := gap })).recompute k

/-- Channel k takes an accepted reply (R100). -/
def State.channelReply (s : State) (k : Nat) (f : LastReply) : State :=
  match (s.channel k).state with
  | .ramping =>
    match (s.channel k).ramp with
    | none => s
    | some r =>
      let r1 := r.takeReply f.following
      let s1 := s.onChannel k (fun c => { c with ramp := some r1 })
      if Config.stallCount ≤ r1.notFollowing then s1.stall k f.gap else s1
  | .recovering => if f.ready && !f.fault then s.recover k f.gap else s
  | .opening => if f.opened then s.onChannel k (fun c => { c with state := .opened }) else s
  | .absent => s
  | .idle => s
  | .opened => s

/-! ## Strike and unstrike (R101, R102) -/

/-- What a strike leaves of a channel in RECOVERING, IDLE or RAMPING (R101). That the current plan value keeps its value is the
model's choice: R101 says so of effective target, plan target and last sent value alone (log 33). -/
def Channel.struck (c : Channel) : Channel :=
  { c with
    ramp := none, plans := [], release := false, feedback := 0, feedForward := 0, clamp := false
    state := .opening, strikes := bump c.strikes }

/-- A strike reaches channel k (R101). -/
def State.strike (s : State) (k : Nat) : State :=
  match (s.channel k).state with
  | .recovering | .idle | .ramping => (s.endOwnership k).onChannel k Channel.struck
  | .opening | .opened | .absent => s

/-- An unstrike reaches channel k (R102). -/
def State.unstrike (s : State) (k : Nat) : State :=
  match (s.channel k).state with
  | .opening | .opened => s.onChannel k (fun c => { c with state := .recovering })
  | .recovering | .idle | .ramping | .absent => s

/-! ## A channel at a successful adoption (R14) -/

/-- A channel that leaves ABSENT (R14, R99). That the effective target, which R99's list does not name, becomes 0 is the
model's choice (log 37). -/
def Channel.entered (t : StandSettings) (c : Channel) : Channel :=
  { Channel.fresh with
    state := .recovering, mode := t.initialMode
    rampsStarted := c.rampsStarted, rampsCompleted := c.rampsCompleted, stalls := c.stalls, clamps := c.clamps,
    plansLapsed := c.plansLapsed, strikes := c.strikes }

/-- A channel that becomes ABSENT (R14, R99). That the current plan value, the effective target and the last sent value keep
their values is the model's choice: R99 names only what clears and that mode, plan target and counters keep (log 33). -/
def Channel.removed (c : Channel) : Channel :=
  { c with
    state := .absent, plans := [], ramp := none, feedback := 0, feedForward := 0, release := false, clamp := false }

/-- The pacing of a ramp in flight whose stand's burst flag becomes set (R14, item 4). -/
def Ramp.repaced (burst : Bool) (r : Ramp) : Ramp :=
  if burst && r.followingAwaited then { r with stepDue := true, followingAwaited := false } else r

/-- A channel that stays present: trims clamped, pacing of the new kind (R14, items 1 and 4). -/
def Channel.kept (t : StandSettings) (c : Channel) : Channel :=
  { c with
    feedback := clampTrim t c.feedback, feedForward := clampTrim t c.feedForward
    ramp := c.ramp.map (Ramp.repaced t.burst) }

/-- Channel k at a successful adoption, under the new working tables (R14). -/
def State.adoptChannel (s : State) (k : Nat) : State :=
  if k ≤ s.standCount then
    if (s.channel k).state = .absent then
      (s.onChannel k (Channel.entered (s.standSettings k))).onDrive k (fun d => { d with sinceGrant := Config.grantMax })
    else
      let s1 := (s.onChannel k (Channel.kept (s.standSettings k))).recompute k
      if (s.standSettings k).burst then s1 else s1.endOwnership k
  else (s.onChannel k Channel.removed).endOwnership k

end Sys2Proof.Machine
end

