-- ==== Sys2Proof/Machine/Protection.lean ====
section
/-! DEFINITION. The Protection Unit (Chapter 7): trip sources, the judging of assertions, latches, clearance, the resample
of an adoption, and the protection links. Sources and groups are numbered from 0, links from 1. -/

namespace Sys2Proof.Machine

/-! ## Sources, map entries and groups -/

/-- Group record g (0 to 15). -/
def State.group (s : State) (g : Nat) : Group := num s.protection.groups (g + 1)

/-- The working trip map entry of source x (R128). -/
def State.mapEntry (s : State) (x : Nat) : MapEntry :=
  (s.orders.tables.map (fun t => num t.tripMap (x + 1))).getD default

/-- Source x is asserted. -/
def State.asserted (s : State) (x : Nat) : Bool := s.protection.sources.getLsbD x

/-- Source x set to asserted or clear, with nothing judged. -/
def State.setSource (s : State) (x : Nat) (b : Bool) : State :=
  s.setProtection { s.protection with sources := setBit s.protection.sources x b }

/-- A set of sources as bits. -/
def sourceSet (l : List Nat) : BitVec 62 := l.foldl (fun x i => setBit x i true) 0#62

/-- A set of stands as bits: bit k - 1 is stand k. -/
def standSet (l : List Nat) : BitVec 8 := l.foldl (fun x k => setBit x (k - 1) true) 0#8

/-- Stand k is in a set of stands. -/
def holds (x : BitVec 8) (k : Nat) : Bool := decide (1 ≤ k) && x.getLsbD (k - 1)

/-- The stands of a set in ascending number. -/
def standsOf (x : BitVec 8) : List Nat := (upTo 8).filter (holds x)

/-! ## Struck set and snapshot (R133, R134) -/

/-- The bite of station s(k) (R59). -/
def State.biteOfStand (s : State) (k : Nat) : Option SegKey := (s.station (s.stationOfStand k)).bite

/-- The base of a latch: every stand if the group is mill-wide, the group's stand set otherwise (R133). -/
def State.struckBase (s : State) (c : GroupConfig) : BitVec 8 :=
  if c.millWide then standSet (upTo s.standCount) else c.stands

/-- The strip coils of a base: the bite coils of its THREADED stand stations (R133). -/
def State.stripCoils (s : State) (base : BitVec 8) : List Word :=
  (standsOf base).filterMap (fun k => (s.biteOfStand k).map SegKey.coil)

/-- The stands of a base or with a bite of one of its strip coils (R133). -/
def State.extendStruck (s : State) (base : BitVec 8) : BitVec 8 :=
  let coils := s.stripCoils base
  standSet ((upTo 8).filter (fun k =>
    holds base k ||
      (decide (k ≤ s.standCount) && ((s.biteOfStand k).map (fun b => coils.contains b.coil)).getD false)))

/-- The struck set of a latch (R133). -/
def State.struckSet (s : State) (c : GroupConfig) : BitVec 8 :=
  let base := s.struckBase c
  if c.extending then s.extendStruck base else base

/-- The snapshot entry of stand k (R134). -/
def State.snapEntry (s : State) (k : Nat) : SnapEntry where
  stand := k
  bite := s.biteOfStand k
  reply := (num s.bus.drives k).last.map (fun r => (r.gap, r.force))

/-! ## Latch (R132) -/

/-- The group record that a latch leaves (R132, steps 1 to 4). -/
def State.latchedGroup (s : State) (g : Group) (first : Nat) (causes : List Nat) : Group :=
  let struck := s.struckSet g.config
  { g with
    latched := true, firstCause := some first, causes := sourceSet causes, latchTime := s.now, struck := struck
    owed := true, snapshot := (standsOf struck).map s.snapEntry, latches := bump g.latches }

/-- Strikes handed to the channels of a set of stands in ascending number (R132, step 6). -/
def State.strikeAll (s : State) (l : List Nat) : State := l.foldl State.strike s

/-- A latch of group g with its first cause and its cause set (R132). The lines fall in the same action: they are set at
the end of the step from the struck sets (Machine/Flags.lean, settle). -/
def State.latch (s : State) (g first : Nat) (causes : List Nat) : State :=
  let s1 := s.onGroup g (fun r => s.latchedGroup r first causes)
  ((s1.strikeAll (standsOf (s1.group g).struck)).rewriteGroup g).raise .trip

/-! ## Assertions (R131) -/

/-- The WARNING record and attention of a masked assertion (R131). -/
def State.warn (s : State) (x g : Nat) : State := (s.pushEvent (.warning x g s.now)).raise .warning

/-- An unmasked assertion of source x into group g (R131, items 2 and 3). -/
def State.assertInto (s : State) (x g : Nat) : State :=
  if (s.group g).latched then s.onGroup g (fun r => { r with causes := setBit r.causes x true })
  else s.latch g x [x]

/-- An assertion of source x is judged against its map entry and its group (R130, R131). -/
def State.judge (s : State) (x : Nat) : State :=
  if s.configured then
    if (s.mapEntry x).masked then s.warn x (s.mapEntry x).group else s.assertInto x (s.mapEntry x).group
  else s

/-- A level source takes the state its block hands over (R127): a change to asserted is an assertion. -/
def State.setLevel (s : State) (x : Nat) (b : Bool) : State :=
  if b = s.asserted x then s
  else if b then (s.setSource x true).judge x
  else s.setSource x false

/-- A pulse source is judged as an assertion and is clear again at once (R127). That the source status record, which would
show its state, is not rewritten for it is the model's choice (log 38). -/
def State.pulse (s : State) (x : Nat) : State := s.judge x

/-! ## Clearance (R140) -/

/-- The configuration of group g in the working tables. -/
def State.workingGroup (s : State) (g : Nat) : GroupConfig :=
  (s.orders.tables.map (fun t => num t.groups (g + 1))).getD GroupConfig.fresh

/-- The group record that steps 1 and 2 of a clearance leave (R140). -/
def Group.cleared (c : GroupConfig) (g : Group) : Group :=
  { g with
    config := c, latched := false, firstCause := none, causes := 0#62, latchTime := 0#32, struck := 0#8
    owed := false, snapshot := [] }

/-- The sources that the resample of a clearance finds: mapped to g, unmasked, LEVEL and asserted (R140). -/
def State.levelCauses (s : State) (g : Nat) : List Nat :=
  (List.range 62).filter (fun x =>
    (s.mapEntry x).group == g && !(s.mapEntry x).masked && (s.mapEntry x).level && s.asserted x)

/-- Steps 1 to 3 of a clearance (R140). -/
def State.clearAndResample (s : State) (g : Nat) : State :=
  let s1 := (s.onGroup g (Group.cleared (s.workingGroup g))).rewriteGroup g
  match s1.levelCauses g with
  | [] => s1
  | x :: xs => s1.latch g x (x :: xs)

/-- Step 4 of a clearance: each released stand that no latched group strikes is unstruck (R140). -/
def State.unstrikeReleased (s : State) (released : BitVec 8) : State :=
  ((standsOf released).filter (fun k => !s.struckByAny k)).foldl State.unstrike s

/-- The clearance of group g (R140). MILL RUN, step 5, follows the groups at the end of the step. -/
def State.clearance (s : State) (g : Nat) : State :=
  (s.clearAndResample g).unstrikeReleased (s.group g).struck

/-- The groups that CLEAR CLASS takes: latched with class c, in ascending number (R141). -/
def State.classGroups (s : State) (c : Nat) : List Nat :=
  (List.range 16).filter (fun g => (s.group g).latched && (s.group g).config.cls == c)

/-- The groups of CLEAR CLASS that are cleared: those not owed (R141). -/
def State.clearableGroups (s : State) (c : Nat) : List Nat := (s.classGroups c).filter (fun g => !(s.group g).owed)

/-- The stands released by CLEAR CLASS (R141). -/
def State.classReleased (s : State) (c : Nat) : BitVec 8 :=
  (s.clearableGroups c).foldl (fun x g => x ||| (s.group g).struck) 0#8

/-- The effect of CLEAR CLASS on the groups and the released stands (R141). -/
def State.clearClass (s : State) (c : Nat) : State :=
  ((s.clearableGroups c).foldl State.clearAndResample s).unstrikeReleased (s.classReleased c)

/-! ## Adoption (R16, R17) -/

/-- The stands above n leave a struck set. -/
def clipStands (n : Nat) (x : BitVec 8) : BitVec 8 := standSet ((standsOf x).filter (fun k => decide (k ≤ n)))

/-- A latched group loses the stands above the new N and their snapshot entries (R17). -/
def Group.clip (n : Nat) (g : Group) : Group :=
  { g with struck := clipStands n g.struck, snapshot := g.snapshot.filter (fun e => decide (e.stand ≤ n)) }

/-- Group g at a successful adoption, before the resample: a clear group takes its new configuration (R16), a latched
one keeps what it latched with, less the removed stands (R17). -/
def State.adoptGroup (s : State) (g : Nat) : State :=
  s.onGroup g (fun r => if r.latched then r.clip s.standCount else { r with config := s.workingGroup g })

/-- One source of the resample of an adoption; the groups of `kept` were latched at the completion (R16). -/
def State.resampleSource (kept : List Nat) (s : State) (x : Nat) : State :=
  if s.asserted x && !kept.contains (s.mapEntry x).group then s.judge x else s

/-- The groups that are latched. -/
def State.latchedGroups (s : State) : List Nat := (List.range 16).filter (fun g => (s.group g).latched)

/-- The resample of a successful adoption, under the new tables: the level sources in ascending order (R16). -/
def State.resample (s : State) : State := (List.range 60).foldl (State.resampleSource s.latchedGroups) s

/-! ## Protection links (R124 to R126) -/

/-- A good frame on link l: acted on by act when the link is UP; it brings a DOWN link up (R125). -/
def State.protectionFrame (s : State) (l : Nat) (act : State → State) : State :=
  let s1 := s.onLink l (fun r => { r with up := true, loss := some (s.after Config.lossTime), good := bump r.good })
  if (num s.protection.links l).up then act s1 else s1

/-- The field source of input i of link l (R126). -/
def fieldSource (l i : Nat) : Nat := 12 * (l - 1) + i

/-- The 12 field sources of link l that are clear assert in ascending number (R125). -/
def State.assertLink (s : State) (l : Nat) : State :=
  (List.range 12).foldl (fun t i => t.setLevel (fieldSource l i) true) s

/-- The loss timer of link l expires (R125). -/
def State.linkLoss (s : State) (l : Nat) : State :=
  (s.onLink l (fun r => { r with up := false, loss := none, losses := bump r.losses })).assertLink l

/-- ASSERT (R124 to R126). -/
def execAssertInput (link : Fin 4) (input : Fin 12) (s : State) : Result :=
  completes (s.protectionFrame (link + 1) (fun t => t.setLevel (fieldSource (link + 1) input) true))

/-- DEASSERT (R124 to R126). -/
def execDeassertInput (link : Fin 4) (input : Fin 12) (s : State) : Result :=
  completes (s.protectionFrame (link + 1) (fun t => t.setLevel (fieldSource (link + 1) input) false))

/-- HEARTBEAT (R124, R125). -/
def execHeartbeat (link : Fin 4) (s : State) : Result :=
  completes (s.protectionFrame (link + 1) (fun t => t))

/-- PROTECTION_BAD_FRAME (R124): counted and discarded. -/
def execProtectionBadFrame (link : Fin 4) (s : State) : Result :=
  completes (s.onLink (link + 1) (fun r => { r with bad := bump r.bad }))

/-- LOSS_TIMER_EXPIRY (R125): at the instant the running timer was armed for; a stopped timer does not expire (log 2). -/
def execLossTimerExpiry (link : Fin 4) (s : State) : Result :=
  match (num s.protection.links (link + 1)).loss with
  | some e => completes ((s.advanceTo e).linkLoss (link + 1))
  | none => .next s

end Sys2Proof.Machine
end

