-- ==== Sys2Proof/Machine/Tracking.lean ====
section
/-! DEFINITION. The Tracking Unit (Chapters 2 and 3): the front rule, bite entries, passages, length deltas, load events,
the coil orders' effects, and the announcements that an action hands on at its end. -/

namespace Sys2Proof.Machine

/-! ## Actions and what they announce (R52) -/

/-- Passage kinds (R52). -/
inductive PassageKind where
  | normal
  | tailed
  | advanced
  deriving DecidableEq, Repr, Inhabited

/-- What an action of the Tracking Unit raises for the Gap Channels and the Protection Unit (R52). -/
inductive Announcement where
  | biteEntry (stand : Nat) (key : SegKey)
  | standPassage (stand : Nat) (key : SegKey)
  | gaugePassage (gauge stand : Nat) (key : SegKey) (kind : PassageKind)
  | removeSegment (key : SegKey)
  | removeCoil (coil : Word)
  | mismatchPulse
  deriving DecidableEq, Repr, Inhabited

/-- An action in progress: the state so far and the announcements raised so far, in order. -/
structure Act where
  s : State
  out : List Announcement

/-- The state of an action changed by f. -/
def Act.step (a : Act) (f : State → State) : Act := { a with s := f a.s }

/-- Announcements raised. -/
def Act.tell (a : Act) (l : List Announcement) : Act := { a with out := a.out ++ l }

/-- What the receiving block does with an announcement (R54, R77, R106, R107). -/
def State.announce (s : State) : Announcement → State
  | .biteEntry k key => s.biteEntry k key
  | .standPassage k key => s.onChannel k (Channel.lapse key)
  | .gaugePassage g k key kind => if kind = .normal then s.feedback g k key else s
  | .removeSegment key => s.removePlans (fun e => e.key == key)
  | .removeCoil c => s.removePlans (fun e => e.key.coil == c)
  | .mismatchPulse => s.pulse 60

/-! ## Span queues and coils -/

/-- The first n segments of span j - 1 leave it, and the segments `new` join span j at the back; into span M each appends
its segment item to the exit list (R33, R41). -/
def State.moveFront (s : State) (j n : Nat) (new : List Segment) : State :=
  s.setTracking { s.tracking with
    spans := (s.tracking.spans.modify (j - 1) (fun q => q.drop n)).modify j (fun q => q ++ new)
    exits := if j = s.stationCount then s.tracking.exits ++ new.map (fun g => .segment g.key) else s.tracking.exits }

/-- An ANNOUNCED coil becomes ROLLING: it has entered the mill (R23). -/
def Coil.enter (c : Coil) : Coil := if c.state = .announced then { c with state := .rolling } else c

/-- One of a coil's segments is flagged SHORTENED (R24, R53). -/
def Coil.shorten (c : Coil) : Coil := { c with shortened := c.shortened + 1, shortenedSeen := true }

/-- The coils of the segments that leave span 0 enter the mill (R23). -/
def State.enterMill (s : State) (j : Nat) (l : List Segment) : State :=
  if j = 1 then l.foldl (fun t g => t.onCoil g.key.coil Coil.enter) s else s

/-- A coil segment in spans 0 to j - 1 that is not SHORTENED (R43, R49). -/
def State.unshortenedLeft (s : State) (j : Nat) (coil : Word) : Bool :=
  (s.tracking.spans.take j).flatten.any (fun g => g.key.coil == coil && !g.shortened)

/-- The length at station j of a segment of a coil (R40). -/
def State.lengthAt (s : State) (j : Nat) (coil : Word) : Nat :=
  ((s.coilById coil).map (fun c => numL c.lengths (s.station j).feeding)).getD 0

/-! ## The front rule (R42) and the awaiting station (R43) -/

/-- The front rule flags the segment SHORTENED: it meets the closed coil (R42, R53). -/
def Station.closes (t : Station) (g : Segment) : Bool :=
  !g.shortened && !t.transparent && t.closedCoil == some g.key.coil

/-- The front rule moves the segment on (R42). -/
def Station.passesOn (t : Station) (g : Segment) : Bool := g.shortened || t.transparent || t.closes g

/-- The segment as the front rule moves it on. -/
def Station.movedOn (t : Station) (g : Segment) : Segment := if t.closes g then { g with shortened := true } else g

/-- The counts and the plan removals of segments newly flagged SHORTENED (R53). -/
def Act.flagAll (a : Act) (l : List Segment) : Act :=
  (a.step (fun s => l.foldl (fun t g => t.onCoil g.key.coil Coil.shorten) s)).tell
    (l.map (fun g => .removeSegment g.key))

/-- The front rule of station j (R42). -/
def Act.frontRule (a : Act) (j : Nat) : Act :=
  let t := a.s.station j
  let moved := (a.s.span (j - 1)).takeWhile t.passesOn
  if moved = [] then a
  else
    ((a.step (fun s => (s.moveFront j moved.length (moved.map t.movedOn)).enterMill j moved)).flagAll
      (moved.filter t.closes))

/-- The station record at a bite entry (R45, R49, R51). -/
def Station.thread (key : SegKey) (accumulator : Nat) (t : Station) : Station :=
  { t with
    form := .threaded key accumulator
    closedCoil := if t.closedCoil = some key.coil then t.closedCoil else none
    biteEntries := bump t.biteEntries }

/-- What a bite entry announces: at a stand station the stand and the segment (R51). -/
def Station.entryNews (t : Station) (key : SegKey) : List Announcement :=
  match t.kind with
  | .stand => [.biteEntry t.feeding key]
  | .gauge _ => []

/-- A bite entry at station j (R51). -/
def Act.enterBite (a : Act) (j : Nat) (key : SegKey) (accumulator : Nat) : Act :=
  (a.step (fun s => (s.onStation j (Station.thread key accumulator)).onCoil key.coil Coil.enter)).tell
    ((a.s.station j).entryNews key)

/-- An awaiting station takes its coil's segment when that is the front of its upstream span (R43). -/
def Act.takeAwaited (a : Act) (j : Nat) : Act :=
  match (a.s.station j).form, (a.s.span (j - 1)).head? with
  | .awaiting c, some g => if g.key.coil = c then a.enterBite j g.key 0 else a
  | _, _ => a

/-- The front rule of every station and then what awaits there, in station order, so that a moved segment cascades within
the action (R42, R43). -/
def Act.sweep (a : Act) : Act := (upTo a.s.stationCount).foldl (fun b j => (b.frontRule j).takeAwaited j) a

/-! ## Passages (R52) -/

/-- A stand block that takes gap and force of the drive's most recent reply (R52). -/
def StandBlock.passed (r : Option LastReply) (b : StandBlock) : StandBlock :=
  match r with
  | some r => { b with gap := some r.gap, force := some r.force }
  | none => b

/-- The segment record at a passage (R52). -/
def State.passedSegment (s : State) (t : Station) (kind : PassageKind) (g : Segment) : Segment :=
  let g := match kind with
    | .normal => g
    | .tailed => { g with tailed := true }
    | .advanced => { g with advanced := true }
  match t.kind with
  | .stand => { g with stands := upd g.stands t.feeding (StandBlock.passed (num s.bus.drives t.feeding).last) }
  | .gauge _ => g

/-- What a passage announces (R52, R107). -/
def Station.passageNews (t : Station) (key : SegKey) (kind : PassageKind) : Announcement :=
  match t.kind with
  | .stand => .standPassage t.feeding key
  | .gauge g => .gaugePassage g t.feeding key kind

/-- The bite of station j passes into span j (R52), and the front rule is applied (R42). -/
def Act.passBite (a : Act) (j : Nat) (key : SegKey) (kind : PassageKind) : Act :=
  let t := a.s.station j
  let front := (a.s.span (j - 1)).take 1
  Act.sweep
    ((a.step (fun s =>
      ((s.moveFront j 1 (front.map (s.passedSegment t kind))).enterMill j front).onStation j
        (fun t => { t with passages := bump t.passages, lastPassed := key.number }))).tell
      [t.passageNews key kind])

/-- The station continues after a passage, with its accumulator's remainder (R49). -/
def Act.continueAfter (a : Act) (j : Nat) (coil : Word) (rest : Nat) : Act :=
  if a.s.unshortenedLeft j coil then
    match (a.s.span (j - 1)).head? with
    | some g =>
      if g.key.coil = coil then a.enterBite j g.key rest
      else a.step (fun s => s.onStation j (fun t => { t with form := .awaiting coil, awaits := bump t.awaits }))
    | none => a.step (fun s => s.onStation j (fun t => { t with form := .awaiting coil, awaits := bump t.awaits }))
  else a.step (fun s => s.onStation j (fun t => { t with form := .tailDrain coil true 0 }))

/-! ## Irregularities (R54, R55) -/

/-- A TRACK EVENT record of station j at the present mill time (R55). -/
def State.trackEvent (s : State) (j : Nat) (kind : TrackKind) (coil : Word) (segment : Nat) : State :=
  s.pushEvent (.track j kind coil segment s.now)

/-- A tracking mismatch at station j (R54). -/
def Act.mismatch (a : Act) (j : Nat) (kind : TrackKind) (coil : Word) (segment : Nat) : Act :=
  (a.step (fun s => (((s.trackEvent j kind coil segment).raise .warning).onStation j
    (fun t => { t with mismatches := bump t.mismatches })))).tell [.mismatchPulse]

/-! ## Length deltas (R47, R48, R50) -/

/-- The passage loop (R48): at most n passages. -/
def Act.passageLoop : Nat → Act → Nat → Act
  | 0, a, _ => a
  | n + 1, a, j =>
    match (a.s.station j).form with
    | .threaded key acc =>
      if a.s.lengthAt j key.coil ≤ acc then
        Act.passageLoop n
          ((a.passBite j key .normal).continueAfter j key.coil (acc - a.s.lengthAt j key.coil)) j
      else a
    | .empty | .tailDrain _ _ _ | .untracked | .awaiting _ => a

/-- The segments in spans 0 to j - 1: more than these cannot pass station j in one action. -/
def State.upstreamCount (s : State) (j : Nat) : Nat := (s.tracking.spans.take j).flatten.length

/-- The working drain allowance (R5). -/
def State.drainAllowance (s : State) : Nat := (s.orders.tables.map Tables.drainAllowance).getD 0

/-- The delta in tail drain with the drain check on (R50). -/
def Act.drain (a : Act) (j d : Nat) (coil : Word) (length : Nat) : Act :=
  if a.s.drainAllowance < length + d then
    (a.step (fun s => s.onStation j (fun t => { t with form := .tailDrain coil false (length + d) }))).mismatch j .overrun
      coil (a.s.station j).lastPassed
  else a.step (fun s => s.onStation j (fun t => { t with form := .tailDrain coil true (length + d) }))

/-- A length delta at station j (R47). -/
def Act.delta (d : Nat) (a : Act) (j : Nat) : Act :=
  if (a.s.station j).transparent then a
  else
    match (a.s.station j).form with
    | .threaded key acc =>
      Act.passageLoop (a.s.upstreamCount j + 1)
        (a.step (fun s => s.onStation j (fun t => { t with form := .threaded key (acc + d) }))) j
    | .tailDrain coil true length => a.drain j d coil length
    | .tailDrain _ false _ | .empty | .untracked | .awaiting _ => a

/-- The stations whose feeding stand is k, ascending (R4). -/
def State.stationsOf (s : State) (k : Nat) : List Nat :=
  (upTo s.stationCount).filter (fun j => (s.station j).feeding == k)

/-! ## Load events (R44 to R46) -/

/-- A load-on at station j in ARMED, the station not transparent (R45). -/
def Act.loadOn (a : Act) (j : Nat) : Act :=
  match (a.s.station j).form with
  | .empty =>
    match (a.s.span (j - 1)).head? with
    | some g => a.enterBite j g.key 0
    | none => (a.step (fun s => s.onStation j (fun t => { t with form := .untracked }))).mismatch j .headUnexpected 0#32 0
  | .threaded _ _ | .tailDrain _ _ _ | .untracked | .awaiting _ => a

/-- The segments that follow a tailed bite: the run of its coil at the front of span j - 1 (R46, step 2). -/
def State.followers (s : State) (j : Nat) (coil : Word) : List Segment :=
  (s.span (j - 1)).takeWhile (fun g => g.key.coil == coil)

/-- The early tail of a bite (R46). -/
def Act.earlyTail (a : Act) (j : Nat) (key : SegKey) : Act :=
  let b := a.passBite j key .tailed
  let run := b.s.followers j key.coil
  let c := (b.step (fun s =>
    (s.moveFront j run.length (run.map (fun g => { g with shortened := true }))).enterMill j run)).flagAll
      (run.filter (fun g => !g.shortened))
  let d := c.step (fun s => s.onStation j (fun t =>
    { t with form := .empty, closedCoil := some key.coil, earlyTails := bump t.earlyTails }))
  (d.step (fun s => (s.trackEvent j .earlyTail key.coil key.number).raise .warning)).sweep

/-- A load-off at station j in ARMED, the station not transparent (R46). -/
def Act.loadOff (a : Act) (j : Nat) : Act :=
  match (a.s.station j).form with
  | .threaded key _ => a.earlyTail j key
  | .awaiting coil =>
    (a.step (fun s => s.onStation j (fun t => { t with form := .empty, closedCoil := some coil }))).sweep
  | .tailDrain _ _ _ | .untracked => a.step (fun s => s.onStation j (fun t => { t with form := .empty }))
  | .empty => a

/-- The mill is ARMED. -/
def State.armed (s : State) : Bool := s.orders.mill == .armed

/-- A load event at station j: load-on for b, load-off otherwise (R44). -/
def Act.loadEvent (a : Act) (j : Nat) (b : Bool) : Act :=
  let a1 := a.step (fun s => s.onStation j (fun t => { t with loaded := b }))
  if a.s.armed && !(a.s.station j).transparent then (if b then a1.loadOn j else a1.loadOff j) else a1

/-! ## The end of an action -/

/-- An awaiting station with nothing left to await goes to tail drain (R43). -/
def State.endAwait (s : State) (j : Nat) : State :=
  match (s.station j).form with
  | .awaiting c => if s.unshortenedLeft j c then s else s.onStation j (fun t => { t with form := .tailDrain c true 0 })
  | .empty | .threaded _ _ | .tailDrain _ _ _ | .untracked => s

/-- The awaits that end at the end of an action (R43). -/
def State.endAwaits (s : State) : State := (upTo s.stationCount).foldl State.endAwait s

/-- The announcements of an action are handed on in order (R52). -/
def State.deliver (s : State) (out : List Announcement) : State := out.foldl State.announce s

/-- One action of the Tracking Unit. -/
def State.action (s : State) (f : Act → Act) : State :=
  (f { s := s, out := [] }).s.endAwaits.deliver (f { s := s, out := [] }).out

/-- A load event at station j as an action of its own (R44). -/
def State.loadEvent (s : State) (j : Nat) (b : Bool) : State := s.action (fun a => a.loadEvent j b)

/-- The delta of a reply of drive k at the stations it feeds (R47). -/
def Act.replyDelta (a : Act) (k d : Nat) : Act := (a.s.stationsOf k).foldl (Act.delta d) a

/-- The Tracking Unit takes a reply of drive k as one action: the length delta if the reply carries one, then the load
event if the LOADED flag differs from the station's flag (R44, R47). -/
def State.trackReply (s : State) (k : Nat) (delta : Option Nat) (loaded : Bool) : State :=
  s.action (fun a =>
    let a1 := match delta with
      | some d => if a.s.armed then a.replyDelta k d else a
      | none => a
    if (a1.s.station (s.stationOfStand k)).loaded = loaded then a1 else a1.loadEvent (s.stationOfStand k) loaded)

/-! ## ARM MILL, DISARM MILL, OMIT GAUGE, RESTORE GAUGE and ADVANCE STATION -/

/-- A station at a change of mill state: the fields that both changes reset (R39). -/
def Station.restart (form : StationForm) (t : Station) : Station :=
  { t with form := form, closedCoil := none, lastPassed := 0 }

/-- Every station at ARM MILL (R19). -/
def Station.atArming (t : Station) : Station :=
  t.restart (if t.loaded && !t.transparent then .untracked else .empty)

/-- Every station at DISARM MILL (R20). -/
def Station.atDisarming (t : Station) : Station := t.restart .empty

/-- All station records changed by f. -/
def State.mapStations (s : State) (f : Station → Station) : State :=
  s.setTracking { s.tracking with stations := s.tracking.stations.map f }

/-- The station of a gauge that becomes OMITTED (R57). -/
def State.omitStation (s : State) (j : Nat) : State :=
  s.action (fun a =>
    (a.step (fun s => s.onStation j (fun t =>
      { t with form := .empty, closedCoil := none, transparent := true }))).sweep)

/-- The station of a gauge that is restored (R58). -/
def State.restoreStation (s : State) (j : Nat) : State :=
  s.onStation j (fun t =>
    { t with form := if s.armed then .untracked else .empty, closedCoil := none, transparent := false })

/-- ADVANCE STATION at a THREADED station j (R56). -/
def State.advanceStation (s : State) (j : Nat) (key : SegKey) : State :=
  s.action (fun a =>
    ((a.passBite j key .advanced).continueAfter j key.coil 0).step (fun s => s.trackEvent j .advanced key.coil key.number))

/-! ## Coils (R27, R29, R31, R34, R35) -/

/-- The announcement counter after an announcement: after 4,294,967,295 it wraps to 1 (R22). -/
def nextSequence (c : Word) : Word := if c = 0xFFFFFFFF#32 then 1#32 else c + 1#32

/-- An empty measurement block (R26). -/
def MeasBlock.fresh : MeasBlock where
  count := 0
  sum := 0
  range := none
  doubtful := 0

/-- An empty stand block (R26). -/
def StandBlock.fresh : StandBlock where
  target := none
  gap := none
  force := none

/-- A segment record as ANNOUNCE COIL takes it (R27). -/
def Segment.fresh (coil : Word) (number : Nat) : Segment where
  key := { coil := coil, number := number }
  shortened := false
  tailed := false
  advanced := false
  meas := Vector.replicate 4 MeasBlock.fresh
  stands := Vector.replicate 8 StandBlock.fresh

/-- A new coil record (R27). -/
def Coil.fresh (id seq : Word) (count : Nat) (lengths thicknesses : List Nat) : Coil where
  id := id
  seq := seq
  segCount := count
  lengths := lengths
  thicknesses := thicknesses
  state := .announced
  shortenedSeen := false
  scrapped := false
  inSpans := count
  reported := 0
  shortened := 0

/-- The lowest free place of the coil table (R21), from 1. -/
def State.freePlace (s : State) : Option Nat := (upTo 8).find? (fun i => (num s.tracking.coils i).isNone)

/-- Announcement of a coil into a free place (R27). Span 0 gains segments at the back, and no station's closed or awaited
coil has the id of a coil that is not in the table, so the front rule finds nothing to do. -/
def State.announceCoil (s : State) (place : Nat) (id : Word) (count : Nat) (lengths thicknesses : List Nat) : State :=
  let t := s.tracking
  s.setTracking { t with
    coils := upd t.coils place (fun _ => some (Coil.fresh id t.counter count lengths thicknesses))
    counter := nextSequence t.counter
    accepted := bump t.accepted
    spans := t.spans.modify 0 (fun q => q ++ (upTo count).map (Segment.fresh id)) }

/-- A coil record is freed (R21). -/
def State.freeCoil (s : State) (id : Word) : State :=
  s.setTracking { s.tracking with
    coils := s.tracking.coils.map (fun c => if c.map Coil.id = some id then none else c) }

/-- Every segment of a coil leaves its span queue (R25). -/
def State.freeSegments (s : State) (id : Word) : State :=
  s.setTracking { s.tracking with
    spans := s.tracking.spans.map (fun q => q.filter (fun g => g.key.coil != id)) }

/-- WITHDRAW COIL of an ANNOUNCED coil (R29): span 0 alone holds its segments (R60). -/
def State.withdrawCoil (s : State) (id : Word) : State :=
  ((s.freeSegments id).removePlans (fun e => e.key.coil == id)).freeCoil id

/-- A station at the scrap of a coil (R31, R60). -/
def Station.scrap (id : Word) (t : Station) : Station :=
  let left : StationForm := if t.loaded then .untracked else .empty
  { t with
    form := match t.form with
      | .threaded b a => if b.coil = id then left else .threaded b a
      | .awaiting c => if c = id then left else .awaiting c
      | .empty => .empty
      | .tailDrain c k d => .tailDrain c k d
      | .untracked => .untracked
    closedCoil := if t.closedCoil = some id then none else t.closedCoil }

/-- An exit item refers to a segment of a coil. -/
def ExitItem.ofCoil (id : Word) : ExitItem → Bool
  | .segment key => key.coil == id
  | .coilDone _ => false

/-- The coil at its scrap (R31). -/
def Coil.scrap (c : Coil) : Coil := { c with state := .ended, scrapped := true, inSpans := 0 }

/-- The exit list at the scrap of a coil: its segment items leave and its coil item joins (R31, R33). -/
def scrapExits (id : Word) (l : List ExitItem) : List ExitItem :=
  l.filter (fun i => !ExitItem.ofCoil id i) ++ [.coilDone id]

/-- SCRAP COIL of a coil that is ANNOUNCED or ROLLING (R31, R60). -/
def State.scrapCoil (s : State) (id : Word) : State :=
  s.action (fun a =>
    ((a.step (fun s =>
      (((s.mapStations (Station.scrap id)).freeSegments id).onCoil id Coil.scrap).setTracking
        { (((s.mapStations (Station.scrap id)).freeSegments id).onCoil id Coil.scrap).tracking with
          exits := scrapExits id s.tracking.exits })).tell [.removeCoil id]).sweep)

/-- The coil counters when one of its SEGMENT records has been written (R34). -/
def Coil.segmentReported (c : Coil) : Coil :=
  { c with
    reported := c.reported + 1
    inSpans := c.inSpans - 1
    state := if c.inSpans ≤ 1 then .ended else c.state }

/-- The coil item that follows a coil's last SEGMENT record (R34). -/
def State.endedItems (s : State) (id : Word) : List ExitItem :=
  match s.coilById id with
  | some c => if c.inSpans ≤ 1 then [.coilDone id] else []
  | none => []

/-- The Tracking Unit's action once the SEGMENT record of the front segment item has been written (R34). -/
def State.segmentWritten (s : State) (key : SegKey) : State :=
  (s.setTracking { s.tracking with
    exits := s.tracking.exits.drop 1 ++ s.endedItems key.coil
    spans := s.tracking.spans.modify s.stationCount (fun q => q.drop 1) }).onCoil key.coil Coil.segmentReported

/-- The Tracking Unit's action once the COIL DONE record of the front coil item has been written (R35, R60). -/
def State.coilDoneWritten (s : State) (id : Word) : State :=
  (((s.setTracking { s.tracking with exits := s.tracking.exits.drop 1 }).removePlans
    (fun e => e.key.coil == id)).freeCoil id).mapStations
      (fun t => if t.closedCoil = some id then { t with closedCoil := none } else t)

end Sys2Proof.Machine
end

