-- ==== Sys2Proof/Machine/Gauges.lean ====
section
/-! DEFINITION. The Gauge Link Unit (Chapter 4): frames on the gauge links, the gauge state machine with its timers,
samples, attribution and debounce, and OMIT GAUGE and RESTORE GAUGE. Links and gauges are numbered from 1. -/

namespace Sys2Proof.Machine

/-- Gauge record g. -/
def State.gauge (s : State) (g : Nat) : Gauge := num s.gauges g

/-- The named gauge whose working settings name link l (R63). -/
def State.gaugeOnLink (s : State) (l : Nat) : Option Nat := (upTo 4).find? (fun g => (s.gauge g).link == some l)

/-- The silence time of gauge g in microseconds (R5). -/
def State.silenceTime (s : State) (g : Nat) : Nat := (s.gaugeSettings g).silenceTime * 1000

/-- The standardise limit of gauge g in microseconds (R5). -/
def State.standardiseLimit (s : State) (g : Nat) : Nat := (s.gaugeSettings g).standardiseLimit * 1000000

/-- FAULT or SILENT: the gauge-lost source is asserted (R70). -/
def GaugeState.lost : GaugeState → Bool
  | .fault => true
  | .silent => true
  | .absent | .waiting | .ready | .standardising | .shuttered | .omitted => false

/-- The gauge-lost source of gauge g (R70). -/
def gaugeSource (g : Nat) : Nat := 55 + g

/-- A change of state raises a GAUGE EVENT record: an entry to FAULT or SILENT, or to READY from one of them (R68, R71). -/
def raisesGaugeEvent (old new : GaugeState) : Bool := new.lost || (old.lost && new == .ready)

/-- The gauge record at a change of state (R67 to R69): the standardise timer runs in STANDARDISING alone, and leaving
READY or entering SILENT sets the debounce counter to 0. -/
def Gauge.change (new : GaugeState) (limit : Word) (r : Gauge) : Gauge :=
  { r with
    state := new
    standardise := if new = .standardising then some limit else none
    debounce := if r.state = .ready ∨ new = .silent then 0 else r.debounce }

/-- The GAUGE EVENT record and attention of a change (R71). -/
def State.gaugeEvent (s : State) (g : Nat) (new : GaugeState) : State := (s.pushEvent (.gauge g new s.now)).raise .warning

/-- Gauge g changes to another state: the record, the source, then the GAUGE EVENT record (R68, R70, R71). -/
def State.changeGauge (s : State) (g : Nat) (new : GaugeState) : State :=
  let old := (s.gauge g).state
  if old = new then s
  else
    let s1 := (s.onGauge g (Gauge.change new (s.after (s.standardiseLimit g)))).setLevel (gaugeSource g) new.lost
    if raisesGaugeEvent old new then s1.gaugeEvent g new else s1

/-- The silence timer of gauge g restarts (R67). -/
def State.restartSilence (s : State) (g : Nat) : State :=
  s.onGauge g (fun r => { r with silence := some (s.after (s.silenceTime g)) })

/-- A good frame discarded by gauge g counts. -/
def State.discardFrame (s : State) (g : Nat) : State :=
  s.onGauge g (fun r => { r with discarded := bump r.discarded })

/-! ## Samples (R72, R73) -/

/-- A measurement block takes an OK sample's deviation (R26). -/
def MeasBlock.add (d : Int) (m : MeasBlock) : MeasBlock :=
  { m with
    count := if m.count < Config.counterMax then m.count + 1 else m.count
    sum := if m.count < Config.counterMax then m.sum + d else m.sum
    range := match m.range with
      | none => some (d, d)
      | some (lo, hi) => some (min lo d, max hi d) }

/-- The deviation of a sample from the nominal thickness of a coil at feeding stand k (R73). -/
def State.deviation (s : State) (coil : Word) (k thickness : Nat) : Int :=
  let nominal := ((s.coilById coil).map (fun c => numL c.thicknesses k)).getD 0
  clampInt ((thickness : Int) - nominal) (-Config.deviationMax) Config.deviationMax

/-- A measurement block takes a sample (R73). -/
def State.measure (s : State) (t : Station) (coil : Word) (thickness : Nat) (doubtful : Bool) (m : MeasBlock) : MeasBlock :=
  if doubtful then { m with doubtful := bump m.doubtful } else m.add (s.deviation coil t.feeding thickness)

/-- The attribution of a sample of gauge g to the bite of station j, if the mill is ARMED and the station THREADED (R73). -/
def State.attribute (s : State) (g j thickness : Nat) (doubtful : Bool) : State :=
  if s.armed then
    match (s.station j).form with
    | .threaded key _ =>
      s.onSegment key (fun x => { x with meas := upd x.meas g (s.measure (s.station j) key.coil thickness doubtful) })
    | .empty | .tailDrain _ _ _ | .untracked | .awaiting _ => s
  else s

/-- Step 1 of a taken sample: the record (R72). -/
def Gauge.record (thickness : Nat) (present doubtful : Bool) (now : Word) (r : Gauge) : Gauge :=
  { r with
    samples := bump r.samples
    doubtful := if doubtful then bump r.doubtful else r.doubtful
    last := some { thickness := thickness, stripPresent := present, doubtful := doubtful, time := now } }

/-- Step 3 of a taken sample: debounce, and the load event of a changed presence (R72). -/
def State.debounceStep (s : State) (g : Nat) (present : Bool) : State :=
  let r := s.gauge g
  if present = r.present then s.onGauge g (fun r => { r with debounce := 0 })
  else if r.debounce + 1 < Config.debounceCount then s.onGauge g (fun r => { r with debounce := r.debounce + 1 })
  else
    (s.onGauge g (fun r => { r with debounce := 0, present := present })).loadEvent (r.station.getD 0) present

/-- A sample taken by a READY gauge (R72). -/
def State.takeSample (s : State) (g thickness : Nat) (present doubtful : Bool) : State :=
  let s1 := s.onGauge g (Gauge.record thickness present doubtful s.now)
  let s2 := if present then s1.attribute g ((s.gauge g).station.getD 0) thickness doubtful else s1
  s2.debounceStep g present

/-- A SAMPLE frame handed to gauge g (R72). -/
def State.handSample (s : State) (g thickness : Nat) (present doubtful : Bool) : State :=
  match (s.gauge g).state with
  | .ready => (s.restartSilence g).takeSample g thickness present doubtful
  | .silent => ((s.restartSilence g).changeGauge g .ready).takeSample g thickness present doubtful
  | .omitted => s.discardFrame g
  | .waiting | .standardising | .shuttered | .fault => (s.restartSilence g).discardFrame g
  | .absent => s

/-- The gauge state that a STATE frame names (R64, R68). -/
def GaugeReport.state : GaugeReport → GaugeState
  | .ready => .ready
  | .standardising => .standardising
  | .shuttered => .shuttered
  | .fault => .fault

/-- A STATE frame handed to gauge g (R68). -/
def State.handState (s : State) (g : Nat) (r : GaugeReport) : State :=
  match (s.gauge g).state with
  | .omitted => s.discardFrame g
  | .absent => s
  | .waiting | .ready | .standardising | .shuttered | .fault | .silent =>
    (s.restartSilence g).changeGauge g (GaugeReport.state r)

/-! ## Frames on a link (R63) -/

/-- A good frame counts on its link (R63). -/
def State.countGood (s : State) (l : Nat) : State :=
  s.setGaugeLinks (upd s.gaugeLinks l (fun r => { r with good := bump r.good }))

/-- A good frame on link l is counted and handed to the gauge that the link belongs to (R63). -/
def State.gaugeFrame (s : State) (l : Nat) (act : Nat → State → State) : State :=
  match s.gaugeOnLink l with
  | some g => act g (s.countGood l)
  | none => s.countGood l

/-- A bad frame on link l (R63). -/
def State.gaugeBad (s : State) (l : Nat) : State :=
  let s1 := s.setGaugeLinks (upd s.gaugeLinks l (fun r => { r with bad := bump r.bad }))
  match s.gaugeOnLink l with
  | some g => s1.onGauge g (fun r => { r with badFrames := bump r.badFrames })
  | none => s1

/-- SAMPLE (R72): a good SAMPLE frame on a gauge link. -/
def execGaugeSample (link : Fin 4) (thickness : BitVec 16) (stripPresent doubtful : Bool) (s : State) : Result :=
  completes (s.gaugeFrame (link + 1) (fun g t => t.handSample g thickness.toNat stripPresent doubtful))

/-- STATE (R68): a good STATE frame on a gauge link. -/
def execGaugeState (link : Fin 4) (report : GaugeReport) (s : State) : Result :=
  completes (s.gaugeFrame (link + 1) (fun g t => t.handState g report))

/-- GAUGE_BAD_FRAME (R63). -/
def execGaugeBadFrame (link : Fin 4) (s : State) : Result := completes (s.gaugeBad (link + 1))

/-! ## Timers (R67, R69) -/

/-- The silence timer of gauge g expires (R67). -/
def State.gaugeSilent (s : State) (g : Nat) : State :=
  (s.onGauge g (fun r => { r with silence := none })).changeGauge g .silent

/-- SILENCE_TIMER_EXPIRY (R67): at the instant the running timer was armed for; a stopped timer does not expire (log 2). -/
def execSilenceTimerExpiry (gauge : Fin 4) (s : State) : Result :=
  match (s.gauge (gauge + 1)).silence with
  | some e => completes ((s.advanceTo e).gaugeSilent (gauge + 1))
  | none => .next s

/-- STANDARDISE_TIMER_EXPIRY (R69): the gauge becomes FAULT; a stopped timer does not expire (log 2). -/
def execStandardiseTimerExpiry (gauge : Fin 4) (s : State) : Result :=
  match (s.gauge (gauge + 1)).standardise with
  | some e => completes ((s.advanceTo e).changeGauge (gauge + 1) .fault)
  | none => .next s

/-! ## OMIT GAUGE, RESTORE GAUGE and adoption (R74, R75, R15) -/

/-- The gauge record of a gauge taken out of service (R74). -/
def Gauge.omit (r : Gauge) : Gauge :=
  { r with state := .omitted, silence := none, standardise := none, debounce := 0 }

/-- Gauge g is taken out of service (R74): state, source, station. -/
def State.omitGauge (s : State) (g : Nat) : State :=
  ((s.onGauge g Gauge.omit).setLevel (gaugeSource g) false).omitStation ((s.gauge g).station.getD 0)

/-- Gauge g is restored (R75). -/
def State.restoreGauge (s : State) (g : Nat) : State :=
  ((s.onGauge g (fun r => { r with state := .waiting, debounce := 0 })).restartSilence g).restoreStation
    ((s.gauge g).station.getD 0)

/-- A named gauge after a successful adoption (R15, R66). -/
def Gauge.named (link station : Nat) (silence : Word) (r : Gauge) : Gauge :=
  { r with
    state := .waiting, link := some link, station := some station, silence := some silence, standardise := none
    debounce := 0, present := false }

/-- A gauge that is not named after a successful adoption (R15, R66). A change of state out of READY sets the debounce counter
to 0 (R68). That the debounced presence keeps its value is the model's choice: R15 and R66 give it for named gauges alone
(log 32). -/
def Gauge.unnamed (r : Gauge) : Gauge :=
  { r with
    state := .absent, link := none, station := none, silence := none, standardise := none
    debounce := if r.state = .ready then 0 else r.debounce }

/-- Gauge g at a successful adoption, under the new tables (R15). Its gauge-lost source is clear. -/
def State.adoptGauge (s : State) (g : Nat) : State :=
  let s1 := s.setLevel (gaugeSource g) false
  match (s.orders.tables.map (fun t => t.stationOfGauge g)).getD none with
  | some j => s1.onGauge g (Gauge.named (s.gaugeSettings g).link j (s.after (s.silenceTime g)))
  | none => s1.onGauge g Gauge.unnamed

end Sys2Proof.Machine
end

