-- ==== Sys2Proof/WellFormed.lean ====
section
/-! DEFINITION. Which commands are well formed: the operands lie where the manual lets them lie. -/

namespace Sys2Proof

/-- A host request to BAR1 covers at least one word and ends inside the window (00 Interfaces: 256 KiB). -/
def WordWrite.requestInside (start : BitVec 16) (words : List WordWrite) : Bool :=
  !words.isEmpty && start.toNat + words.length ≤ 65536

/-- Every field of a REPLY lies in its range (R83, R183): address 1 to 8, gap and force at most 60,000. -/
def ReplyFrame.inRange (f : ReplyFrame) : Bool :=
  1 ≤ f.address.toNat && f.address.toNat ≤ 8 &&
    f.actualGap.toNat ≤ Config.gapMax && f.force.toNat ≤ Config.gapMax

/-- The well-formedness check of a command. -/
def Instr.wellFormed : Instr → Bool
  | .hostMemoryWrite start words => WordWrite.requestInside start words
  | .reply f => f.inRange
  | .powerOnReset | .softReset | .pcieLinkReset | .attentionClear _ _ | .registerWrite _ _ _ => true
  | .posting _ _ | .lending _ _ | .pageRelease _ _ | .take | .adoptTables | .adoptionCompletion _ => true
  | .armMill | .disarmMill | .setSlotLength | .announceCoil | .withdrawCoil | .scrapCoil => true
  | .advanceStation | .omitGauge | .restoreGauge | .planGap | .cancelPlans | .setRelease => true
  | .setChannelMode | .resetTrim | .defineProfile | .clearGroup | .clearClass | .forceTrip => true
  | .maskSource | .unmaskSource | .flushReports | .slotTimerExpiry _ | .standBusBadFrame => true
  | .gaugeSample _ _ _ _ | .gaugeState _ _ | .gaugeBadFrame _ | .silenceTimerExpiry _ => true
  | .standardiseTimerExpiry _ | .assertInput _ _ | .deassertInput _ _ | .heartbeat _ => true
  | .protectionBadFrame _ | .lossTimerExpiry _ | .recordWrite | .holdTimerExpiry => true

end Sys2Proof
end

