-- ==== Sys2Proof/Machine/Bus.lean ====
section
/-! DEFINITION. The Stand Bus Controller (Chapter 5): what each channel requests, slot arbitration with burst ownership
and fairness, the frame sent, the judging of received frames, drive records and drive sources. -/

namespace Sys2Proof.Machine

/-- Drive record k. -/
def State.drive (s : State) (k : Nat) : Drive := num s.bus.drives k

/-! ## Requests (R89) -/

/-- POLL when slots since last grant is at least the poll interval (R89). -/
def State.pollDue (s : State) (k : Nat) : Request :=
  if (s.standSettings k).pollInterval ≤ (s.drive k).sinceGrant then .poll else .none

/-- The request of a ramp's pacing (R89, R90). -/
def Ramp.request (r : Ramp) : Request := if r.stepDue then .step else if r.followingAwaited then .poll else .none

/-- The request that channel k presents (R89). -/
def State.request (s : State) (k : Nat) : Request :=
  match (s.channel k).state with
  | .absent => .none
  | .opening => .opening
  | .recovering | .opened => s.pollDue k
  | .idle => if (s.channel k).correctionDue || (s.channel k).resendDue then .step else s.pollDue k
  | .ramping => ((s.channel k).ramp.map Ramp.request).getD .none

/-- The channels that present a request, in ascending number. -/
def State.requesters (s : State) : List Nat := (upTo 8).filter (fun k => s.request k != .none)

/-! ## Arbitration (R92 to R94) -/

/-- The lower priority value wins (R92). -/
def State.better (s : State) (best : Option Nat) (k : Nat) : Option Nat :=
  match best with
  | none => some k
  | some b => if (s.standSettings k).priority < (s.standSettings b).priority then some k else some b

/-- The channel of a list with the lowest priority value. -/
def State.bestOf (s : State) (l : List Nat) : Option Nat := l.foldl s.better none

/-- The wait sets. -/
abbrev Waits := Vector (Option (BitVec 8)) 8

/-- A wait set kept to the channels of a set; an emptied one ends the wait (R94). -/
def keepWaiting (m : BitVec 8) (w : Option (BitVec 8)) : Option (BitVec 8) :=
  match w with
  | none => none
  | some x => if x &&& m = 0#8 then none else some (x &&& m)

/-- The update of the wait set at a slot's beginning (R94). -/
def Waits.update (w : Waits) (requesters : List Nat) : Waits := w.map (keepWaiting (standSet requesters))

/-- The winner leaves every wait set (R94). -/
def Waits.granted (w : Waits) (winner : Nat) : Waits :=
  w.map (fun x => if x.any (fun m => holds m winner) then keepWaiting (~~~ standSet [winner]) x else x)

/-- The requesters that do not wait (R92). -/
def eligible (w : Waits) (l : List Nat) : List Nat := l.filter (fun k => (num w k).isNone)

/-- What the arbiter decides at a slot's beginning: the winner, the burst owner and the wait sets. -/
structure Decision where
  winner : Option Nat
  owner : Option Nat
  waits : Waits
  deriving DecidableEq, Repr

/-- The working fairness flag. -/
def State.fairness (s : State) : Bool := (s.orders.tables.map Tables.fairness).getD false

/-- The wait sets after the owner's preemption (R92, case 3). -/
def State.preempt (s : State) (o : Nat) (w : Waits) (requesters : List Nat) : Waits :=
  if s.fairness then upd w o (fun _ => some (standSet (requesters.filter (· != o)))) else w

/-- The arbiter's decision before the winner leaves the wait sets: the first case of R92 that applies. -/
def State.slotDecision (s : State) : Decision :=
  let l := s.requesters
  let w := Waits.update s.bus.waits l
  let opens := l.filter (fun k => s.request k == .opening)
  if opens ≠ [] then { winner := s.bestOf opens, owner := s.bus.owner, waits := w }
  else
    match s.bus.owner with
    | none => { winner := s.bestOf (eligible w l), owner := none, waits := w }
    | some o =>
      if l = [] ∨ l = [o] then { winner := l.head?, owner := some o, waits := w }
      else
        let w2 := s.preempt o w l
        { winner := s.bestOf (eligible w2 l), owner := none, waits := w2 }

/-- The arbiter's decision (R92 to R94). -/
def State.arbitrate (s : State) : Decision :=
  match s.slotDecision.winner with
  | none => s.slotDecision
  | some k => { s.slotDecision with waits := Waits.granted s.slotDecision.waits k }

/-! ## The beginning of a slot (R82) -/

/-- A drive record at a slot's beginning: the request presented, whether it was granted, and slots since last grant of a
present channel (R89, R98). -/
def Drive.atSlot (present : Bool) (q : Request) (won : Bool) (d : Drive) : Drive :=
  { d with
    presented := q
    granted := won
    sinceGrant :=
      if won then 0
      else if present then min (d.sinceGrant + 1) Config.grantMax
      else d.sinceGrant }

/-- The drive records at a slot's beginning. -/
def State.drivesAtSlot (s : State) (winner : Option Nat) : Vector Drive 8 :=
  Vector.ofFn (fun i : Fin 8 =>
    Drive.atSlot ((s.channel (i + 1)).state != .absent) (s.request (i + 1)) (winner == some (i.val + 1)) s.bus.drives[i])

/-- A winner of a ramp step with its stand's burst flag set becomes burst owner (R93). -/
def State.becomesOwner (s : State) (k : Nat) : Bool := (s.standSettings k).burst && (s.channel k).state == .ramping

/-- The request of channel k is granted: its frame is sent (R93, R95). -/
def State.grant (s : State) (k : Nat) (q : Request) : State × Option RequestFrame :=
  match q with
  | .none => (s, none)
  | .opening => (s, some (.opening k))
  | .poll => (s, some (.poll k))
  | .step =>
    let s1 := if s.becomesOwner k then s.setBus { s.bus with owner := some k } else s
    (s1.sendStep k, some (.setpoint k ((s1.sendStep k).channel k).effective))

/-- The working slot length. -/
def State.slotLength (s : State) : Nat := (s.orders.tables.map Tables.slotLength).getD 0

/-- The length of the slot that begins next: the working slot length, and of the first slot the length adopted (R15, R80). -/
def State.nextSlotLength (s : State) : Nat := s.bus.firstLength.getD s.slotLength

/-- The slot timer at the beginning of a slot at the instant e, and the decision recorded (R80, R82). -/
def State.slotDecided (s : State) (e : Word) (d : Decision) : State :=
  s.setBus { s.bus with
    slotTimer := some (e + BitVec.ofNat 32 s.nextSlotLength)
    firstLength := none
    owner := d.owner
    waits := d.waits
    drives := s.drivesAtSlot d.winner }

/-- The frame of the slot, counted with its drive (R82, R95). -/
def State.openSlot (s : State) (k : Nat) (f : Option RequestFrame) : State :=
  (s.onDrive k (fun d => { d with sent := bump d.sent })).setBus
    { (s.onDrive k (fun d => { d with sent := bump d.sent })).bus with
      slot := some { request := f.map (fun x => (k, x)), decided := none } }

/-- A slot with no requester (R82). -/
def State.emptySlot (s : State) : State :=
  s.setBus { s.bus with slot := some { request := none, decided := none }, emptySlots := bump s.bus.emptySlots }

/-- A slot begins at the instant e (R82). -/
def State.beginSlot (s : State) (e : Word) : State :=
  let s1 := s.slotDecided e s.arbitrate
  match s.arbitrate.winner with
  | none => s1.emptySlot
  | some k => (s1.grant k (s.request k)).1.openSlot k (s1.grant k (s.request k)).2

/-! ## Drive records (R85 to R88) -/

/-- The drive source of stand k (R88). -/
def driveSource (k : Nat) : Nat := 47 + k

/-- The condition of the drive source (R88). -/
def Drive.sourceOn (d : Drive) : Bool := d.answering == .lost || (d.last.map LastReply.fault).getD false

/-- A drive record after a missed reply (R85). -/
def Drive.miss (d : Drive) : Drive :=
  let m := min (d.missed + 1) Config.missedMax
  let lost := d.answering != .lost && m == Config.missedMax
  { d with
    missed := m
    good := 0
    missedTotal := bump d.missedTotal
    answering := if lost then .lost else d.answering
    baselineValid := if lost then false else d.baselineValid
    lostEntries := if lost then bump d.lostEntries else d.lostEntries }

/-- A missed reply of drive k (R85, R88). -/
def State.missedReply (s : State) (k : Nat) : State :=
  (s.onDrive k Drive.miss).setLevel (driveSource k) ((s.onDrive k Drive.miss).drive k).sourceOn

/-- A drive record once a good reply has been counted (R85). -/
def Drive.countGood (d : Drive) : Drive :=
  let g := min (d.good + 1) Config.goodMax
  { d with
    good := g
    missed := 0
    answering := if g = Config.goodMax then .answering else d.answering }

/-- The content of a reply as the drive record keeps it (R84). -/
def LastReply.ofFrame (f : ReplyFrame) (now : Word) : LastReply where
  gap := f.actualGap.toNat
  force := f.force.toNat
  length := f.lengthCount
  ready := f.ready
  loaded := f.loaded
  following := f.following
  opened := f.opened
  fault := f.fault
  time := now

/-- The baseline becomes a length count (R86). -/
def Drive.setBaseline (n : BitVec 16) (d : Drive) : Drive := { d with baseline := n, baselineValid := true }

/-- A drive record that accepts a reply (R86, R87). -/
def Drive.accept (r : LastReply) (d : Drive) : Drive :=
  Drive.setBaseline r.length { d with last := some r, accepted := bump d.accepted }

/-- The length delta of an accepted reply (R86). -/
def Drive.delta (n : BitVec 16) (d : Drive) : Option Nat := if d.baselineValid then some (n - d.baseline).toNat else none

/-- An accepted reply of drive k is handed on (R87). -/
def State.acceptReply (s : State) (k : Nat) (r : LastReply) : State :=
  let d := s.drive k
  let s1 := s.onDrive k (Drive.accept r)
  ((s1.trackReply k (d.delta r.length) r.loaded).channelReply k r).setLevel (driveSource k) (s1.drive k).sourceOn

/-- A good reply of drive k (R85). -/
def State.goodReply (s : State) (k : Nat) (f : ReplyFrame) : State :=
  let s1 := s.onDrive k Drive.countGood
  if (s1.drive k).answering = .lost then s1.onDrive k (Drive.setBaseline f.lengthCount)
  else s1.acceptReply k (LastReply.ofFrame f s.now)

/-! ## Received frames (R82) -/

/-- The slot in progress is decided. -/
def State.decideSlot (s : State) (o : SlotOutcome) : State :=
  s.setBus { s.bus with slot := s.bus.slot.map (fun x => { x with decided := some o }) }

/-- A stray or late frame is counted (R82). -/
def State.stray (s : State) : State := s.setBus { s.bus with strays := bump s.bus.strays }

/-- A bad frame decides the slot (R82). -/
def State.badBusFrame (s : State) : State :=
  (s.setBus { s.bus with badFrames := bump s.bus.badFrames }).decideSlot .missed

/-- A REPLY from another address decides the slot (R82). -/
def State.wrongAddressFrame (s : State) : State :=
  (s.setBus { s.bus with wrongAddress := bump s.bus.wrongAddress }).decideSlot .missed

/-- The first REPLY of a slot whose request went to drive k (R82). -/
def State.firstReply (s : State) (k : Nat) (f : ReplyFrame) : State :=
  if !f.inRange then s.badBusFrame
  else if f.address.toNat ≠ k then s.wrongAddressFrame
  else (s.decideSlot .good).goodReply k f

/-- The drive whose reply window is open and undecided (R82); none for a slot without a request, a decided slot, or a
stand no longer in the layout (R97). -/
def State.window (s : State) : Option Nat :=
  match s.bus.slot with
  | some { request := some (k, _), decided := none } => if k ≤ s.standCount then some k else none
  | some { request := some _, decided := some _ } => none
  | some { request := none, decided := _ } => none
  | none => none

/-- A frame received on the stand bus: taken by act in an open window, counted as stray in any other slot, discarded while
no slot runs (R82, R97, log 15). -/
def State.busFrame (s : State) (act : Nat → State) : State :=
  match s.window with
  | some k => act k
  | none => if s.bus.slot.isSome then s.stray else s

/-- REPLY (R82, R85). -/
def execReply (frame : ReplyFrame) (s : State) : Result := completes (s.busFrame (fun k => s.firstReply k frame))

/-- STAND_BUS_BAD_FRAME (R82). -/
def execStandBusBadFrame (s : State) : Result := completes (s.busFrame (fun _ => s.badBusFrame))

/-! ## The end of a slot (R82, R85, R97) -/

/-- The drive whose slot ends in a missed reply (R82, R85, R97). -/
def State.missedDrive (s : State) : Option Nat :=
  match s.bus.slot with
  | some { request := some (k, _), decided := d } => if d = some .good ∨ s.standCount < k then none else some k
  | some { request := none, decided := _ } => none
  | none => none

/-- The slot in progress ends; inReception says that a frame is still being received (R82). -/
def State.endSlot (s : State) (inReception : Bool) : State :=
  let s1 := if inReception && s.bus.slot.isSome then s.stray else s
  match s.missedDrive with
  | some k => s1.missedReply k
  | none => s1

/-- SLOT_TIMER_EXPIRY (R80, R82): the slot ends and the next begins at that instant; where the first slot's beginning waits
(log 11), no slot ends and the first begins. A stopped timer does not expire (log 2). -/
def execSlotTimerExpiry (inReception : Bool) (s : State) : Result :=
  match s.bus.slotTimer with
  | some e => completes (((s.advanceTo e).endSlot inReception).beginSlot e)
  | none => .next s

/-! ## Adoption (R15, R94) -/

/-- A channel that is ABSENT leaves the wait state and every wait set (R94). That a waiting channel whose set W is emptied by
this waits until the next slot's beginning is the model's choice (log 36). -/
def State.dropWaits (s : State) : State :=
  let present := standSet (upTo s.standCount)
  s.setBus { s.bus with
    waits := Vector.ofFn (fun i : Fin 8 =>
      if i.val + 1 ≤ s.standCount then (s.bus.waits[i]).map (fun m => m &&& present) else none) }

/-- Drive record k at a successful adoption: a stand above N loses it (R15, R84). That the request presented and the grant,
which R84 does not list, become none and clear at once is the model's choice (log 31). -/
def State.adoptDrive (s : State) (k : Nat) : State :=
  if k ≤ s.standCount then s else (s.onDrive k (fun _ => Drive.fresh)).setLevel (driveSource k) false

/-- The wait set at a successful adoption (R15, R94). -/
def State.adoptBus (s : State) : State :=
  if s.fairness then s.dropWaits else s.setBus { s.bus with waits := Vector.replicate 8 none }

/-- The first slot is to begin at the present instant, with the slot length in force (R15, R80). Its beginning is an event
of its own (R184): the next SLOT_TIMER_EXPIRY, where it is not made at once (log 11). -/
def State.awaitFirstSlot (s : State) : State :=
  s.setBus { s.bus with slotTimer := some s.now, firstLength := some s.slotLength }

/-- The first slot begins at once (R15, R80). -/
def State.firstSlot (s : State) : State := s.awaitFirstSlot.beginSlot s.now

end Sys2Proof.Machine
end

