-- ==== Sys2Proof/Machine/Reports.lean ====
section
/-! DEFINITION. The Report Writer (Chapter 9) and the words of the report records (R178, R179). -/

namespace Sys2Proof.Machine

/-! ## Words of the records (R178, R179) -/

/-- A report record header: kind, length and the kind-specific fields of bits 31:16. -/
def recordHeader (kind length : Nat) (extra : Word) : Word := field 0 8 kind ||| field 8 8 length ||| extra

/-- A 16-bit gap or force; absent is written 0xFFFF (R179). -/
def gapHalf (x : Option Nat) : Nat := x.getD 0xFFFF

/-- The four words of a named gauge in SEGMENT record number n. Minimum and maximum that are absent are a free value. -/
def gaugeWords (n g : Nat) (m : MeasBlock) : List Word :=
  [ field 0 4 g ||| flagAt 8 m.range.isSome,
    pair m.count m.doubtful,
    signed m.sum,
    match m.range with
    | some (lo, hi) => signedPair lo hi
    | none => Config.absentRange n g ]

/-- The two words of stand k in a SEGMENT record. -/
def standWords (k : Nat) (b : StandBlock) : List Word :=
  [ pair (gapHalf b.target) (gapHalf b.gap),
    field 0 16 (gapHalf b.force) ||| field 16 4 k ||| flagAt 24 b.target.isSome ||| flagAt 25 b.gap.isSome |||
      flagAt 26 b.force.isSome ]

/-- SEGMENT record number n of a segment, for the named gauges and stands 1 to N. -/
def segmentRecord (n : Nat) (gauges : List Nat) (stands : Nat) (x : Segment) : List Word :=
  [ recordHeader 1 (3 + 4 * gauges.length + 2 * stands) 0#32,
    x.key.coil,
    field 0 8 x.key.number ||| flagAt 8 x.shortened ||| flagAt 9 x.tailed ||| flagAt 10 x.advanced |||
      field 16 4 gauges.length ||| field 24 4 stands ] ++
  (gauges.map (fun g => gaugeWords n g (num x.meas g))).flatten ++
  ((upTo stands).map (fun k => standWords k (num x.stands k))).flatten

/-- COIL DONE record. -/
def coilDoneRecord (c : Coil) : List Word :=
  [ recordHeader 2 3 0#32,
    c.id,
    field 0 8 c.segCount ||| field 8 8 c.reported ||| field 16 8 c.shortened ||| flagAt 24 c.scrapped ]

/-- The segment number of a snapshot entry; 0 for none or no entry. -/
def entryNumber (l : List SnapEntry) (i : Nat) : Nat := ((numL l i).bite.map SegKey.number).getD 0

/-- Four segment numbers of a TRIP record, from entry i on. -/
def entryNumbers (l : List SnapEntry) (i : Nat) : Word :=
  field 0 8 (entryNumber l i) ||| field 8 8 (entryNumber l (i + 1)) ||| field 16 8 (entryNumber l (i + 2)) |||
    field 24 8 (entryNumber l (i + 3))

/-- The two words of a snapshot entry in a TRIP record. -/
def entryWords (e : SnapEntry) : List Word :=
  [ (e.bite.map SegKey.coil).getD 0#32, pair (gapHalf (e.reply.map Prod.fst)) (gapHalf (e.reply.map Prod.snd)) ]

/-- TRIP record of group g (R138). -/
def tripRecord (g : Nat) (r : Group) : List Word :=
  [ recordHeader 3 (5 + 2 * r.snapshot.length) 0#32,
    field 0 4 g ||| field 8 6 (r.firstCause.getD 63) ||| field 16 8 r.struck.toNat ||| field 24 4 r.snapshot.length,
    r.latchTime,
    entryNumbers r.snapshot 1,
    entryNumbers r.snapshot 5 ] ++ (r.snapshot.map entryWords).flatten

/-- Codes of the tracking irregularities. -/
def TrackKind.code : TrackKind → Nat
  | .headUnexpected => 0
  | .overrun => 1
  | .earlyTail => 2
  | .advanced => 3

/-- TRACK EVENT, GAUGE EVENT, CHANNEL EVENT and WARNING records. -/
def eventRecord : EventRecord → List Word
  | .track j kind coil n time =>
    [recordHeader 4 4 (field 16 4 j ||| field 24 2 kind.code), coil, field 0 8 n, time]
  | .gauge g state time => [recordHeader 5 2 (field 16 4 g ||| field 24 4 (Status.gaugeCode state)), time]
  | .stall k lastSent gap time =>
    [recordHeader 6 4 (field 16 4 k), BitVec.ofNat 32 lastSent, BitVec.ofNat 32 gap, time]
  | .clamp k sum limit time =>
    [recordHeader 6 4 (field 16 4 k ||| flagAt 24 true), signed sum, BitVec.ofNat 32 limit, time]
  | .warning x g time => [recordHeader 7 2 (field 16 6 x ||| field 24 4 g), time]

/-! ## The choice of a record (R167) -/

/-- The sources of records. -/
inductive RecordSource where
  | trip (group : Nat)
  | event (e : EventRecord)
  | segment (key : SegKey)
  | coilDone (coil : Word)
  deriving DecidableEq, Repr

/-- The owed group with the lowest number (R167). -/
def State.owedGroup (s : State) : Option Nat := (List.range 16).find? (fun g => (s.group g).owed)

/-- The first source that holds a record (R167). -/
def State.nextRecord (s : State) : Option RecordSource :=
  match s.owedGroup, s.reports.queue, s.tracking.exits with
  | some g, _, _ => some (.trip g)
  | none, e :: _, _ => some (.event e)
  | none, [], .segment key :: _ => some (.segment key)
  | none, [], .coilDone c :: _ => some (.coilDone c)
  | none, [], [] => none

/-- The words of a record as they stand at the instant of writing (R167). -/
def State.recordWords (s : State) : RecordSource → List Word
  | .trip g => tripRecord g (s.group g)
  | .event e => eventRecord e
  | .segment key => segmentRecord s.unstated s.namedGauges s.standCount ((s.segment key).getD default)
  | .coilDone c => coilDoneRecord ((s.coilById c).getD default)

/-- The record fits the current page (R166). -/
def State.fits (s : State) (l : List Word) : Bool := decide (s.reports.wordCount + l.length ≤ Config.bodyWords)

/-! ## Returning a page (R170) -/

/-- The header of a returned page (R170). -/
def Reports.filledHeader (r : Reports) : Word := header .filled .ok r.wordCount r.recordCount

/-- The Report Writer once the current page has left the lent list (R170). -/
def Reports.afterReturn (r : Reports) : Reports :=
  { r with lent := r.lent.drop 1, wordCount := 0, recordCount := 0, hold := none, returned := bump r.returned }

/-- The current page is returned (R170). -/
def State.returnPage (s : State) : State :=
  match s.reports.lent with
  | [] => s
  | p :: _ =>
    (((s.writeHeader p s.reports.filledHeader).setReports s.reports.afterReturn).publish Status.reportSlot).raise .report

/-! ## Writing a record (R166 to R169) -/

/-- The working report hold time in microseconds. -/
def State.holdTime (s : State) : Nat := (s.orders.tables.map Tables.holdTime).getD 0 * 1000

/-- The words of a record stored in the current page, the fill state, and the hold timer that starts with the first record
of an empty page (R166, R169). -/
def State.storeRecord (s : State) (l : List Word) : State :=
  match s.reports.lent with
  | [] => s
  | p :: _ =>
    (s.setPort { s.port with mem := Memory.writeWords s.port.mem (bodyAddress p s.reports.wordCount) l }).setReports
      { s.reports with
        wordCount := s.reports.wordCount + l.length
        recordCount := s.reports.recordCount + 1
        hold := if s.reports.recordCount = 0 then some (s.after s.holdTime) else s.reports.hold
        written := bump s.reports.written }

/-- What the writing of a record hands back to its owner (R167). -/
def State.recordWritten (s : State) : RecordSource → State
  | .trip g => s.onGroup g (fun r => { r with owed := false })
  | .event _ => s.setReports { s.reports with queue := s.reports.queue.drop 1 }
  | .segment key => (s.segmentWritten key).setUnstated (s.unstated + 1)
  | .coilDone c => s.coilDoneWritten c

/-- The page is returned at once after a TRIP record or when no record fits it any more (R168, R169). -/
def State.returnsAtOnce (s : State) : RecordSource → Bool
  | .trip _ => true
  | .event _ | .segment _ | .coilDone _ => s.reports.wordCount == Config.bodyWords

/-- A record is written into the current page, with all it brings (R166 to R169). -/
def State.writeRecord (s : State) (x : RecordSource) : State :=
  let s1 := (s.storeRecord (s.recordWords x)).recordWritten x
  if s1.returnsAtOnce x then s1.returnPage else s1

/-- The chosen record is written, or the current page is returned first and the record goes into the next page if there is
one (R167, R168). -/
def State.writeChosen (s : State) (x : RecordSource) : State :=
  if s.fits (s.recordWords x) then s.writeRecord x
  else if s.returnPage.reports.lent = [] then s.returnPage
  else s.returnPage.writeRecord x

/-- The Report Writer writes a record: there is a current page and a record waits (R167). -/
def State.canWrite (s : State) : Bool := !s.reports.lent.isEmpty && s.nextRecord.isSome

/-- RECORD_WRITE (R167): with no current page or no record waiting there is nothing to write (log 4). -/
def execRecordWrite (s : State) : Result :=
  match s.nextRecord with
  | some x => if s.canWrite then completes (s.writeChosen x) else .next s
  | none => .next s

/-- HOLD_TIMER_EXPIRY (R169): the page is returned; a stopped timer does not expire (log 2). -/
def execHoldTimerExpiry (s : State) : Result :=
  match s.reports.hold with
  | some e => completes (s.advanceTo e).returnPage
  | none => .next s

/-- The effect of FLUSH REPORTS on the current page (R171). -/
def State.flush (s : State) : State := if s.reports.recordCount = 0 then s else s.returnPage

end Sys2Proof.Machine
end

