-- ==== Sys2Proof/Machine/Pages.lean ====
section
/-! DEFINITION. The Order Processor's pages (R159 to R161): the take, the judging of an order word, the end of a page, and
the frame in which every order is executed. -/

namespace Sys2Proof.Machine

/-- Body word i of page p. -/
def State.bodyWord (s : State) (p i : Nat) : Word := Memory.readWord s.port.mem (bodyAddress p i)

/-- The word count of page p. -/
def State.pageWordCount (s : State) (p : Nat) : Nat := headerWordCount (s.headerOf p)

/-- The order word at which execution of a page stands. -/
def State.orderWord (s : State) (t : Taken) : Word := s.bodyWord t.page t.word

/-- The argument words of that order (R160). -/
def State.orderArguments (s : State) (t : Taken) : List Word :=
  (List.range (orderArgs (s.orderWord t))).map (fun i => s.bodyWord t.page (t.word + 1 + i))

/-- The page execution stands at t. -/
def State.setTaken (s : State) (t : Option Taken) : State := s.setOrders { s.orders with taken := t }

/-- The pages-DONE or pages-FAILED counter rises (R161). -/
def Port.countOutcome (done : Bool) (p : Port) : Port :=
  { p with
    pagesDone := if done then bump p.pagesDone else p.pagesDone
    pagesFailed := if done then p.pagesFailed else bump p.pagesFailed }

/-- A page ends: the header is written with its word count kept, BUSY clears, the counter rises and ORDER is set (R161). -/
def State.endPage (s : State) (page : Nat) (result : ResultCode) (item : Nat) : State :=
  let state := if result = .ok then PageState.done else PageState.failed
  let s1 := (s.writeHeader page (header state result (s.pageWordCount page) item)).setTaken none
  ((s1.setPort (s1.port.countOutcome (result == .ok))).publish Status.portSlot).raise .order

/-- Length of the order at t against the page's word count (R160). -/
def State.badLength (s : State) (t : Taken) : Bool :=
  decide (s.pageWordCount t.page ≤ t.word) ||
    decide (s.pageWordCount t.page ≤ t.word + orderArgs (s.orderWord t))

/-- The order word at t names no order or has a reserved bit set (R160, R179). -/
def State.badOrder (s : State) (t : Taken) : Bool :=
  !orderCodes.contains (orderCode (s.orderWord t)) || orderReserved (s.orderWord t)

/-- Execution comes to the order at t: it is judged for length and code, and waits for its own step if it passes
(R160, log 6). -/
def State.comeTo (s : State) (t : Taken) : State :=
  if s.badLength t then s.endPage t.page .badLength t.index
  else if s.badOrder t then s.endPage t.page .badOrder t.index
  else s.setTaken (some t)

/-- The place of the order that follows the order with word w at t (R160). -/
def Taken.following (t : Taken) (w : Word) : Taken :=
  { t with word := t.word + orderArgs w + 1, index := t.index + 1 }

/-- The order at t, with order word w, completes with a result (R160, R161). -/
def State.completeOrder (s : State) (t : Taken) (w : Word) (result : ResultCode) : State :=
  if result = .ok then
    if orderMore w then s.comeTo (t.following w) else s.endPage t.page .ok (t.index + 1)
  else s.endPage t.page result t.index

/-- The order that waits for its step: execution stands at it and no adoption is in flight (R160). -/
def State.waitingOrder (s : State) : Option Taken :=
  match s.orders.adopting with
  | some _ => none
  | none => s.orders.taken

/-- What an order does with its arguments: the state it leaves and its result. -/
abbrev OrderRule := List Word → State → State × ResultCode

/-- An order of one action (R160). When the order that waits has another code, or none waits, the command has nothing to
act on and the state stays as it is (log 4). -/
def orderStep (code : Nat) (rule : OrderRule) (s : State) : Result :=
  match s.waitingOrder with
  | none => .next s
  | some t =>
    if orderCode (s.orderWord t) = code then
      completes ((rule (s.orderArguments t) s).1.completeOrder t (s.orderWord t) (rule (s.orderArguments t) s).2)
    else .next s

/-- The result of the first check that fails, or OK. -/
def firstFailure : List (Bool × ResultCode) → ResultCode
  | [] => .ok
  | (passes, result) :: rest => if passes then firstFailure rest else result

/-- An order judged by its checks in sequence: the first failure with nothing changed, or its effect. -/
def judged (checks : List (Bool × ResultCode)) (s : State) (effect : State × ResultCode) : State × ResultCode :=
  if firstFailure checks = .ok then effect else (s, firstFailure checks)

/-- Argument i (from 1) of an order as a number (R179). -/
def argument (args : List Word) (i : Nat) : Nat := (numL args i).toNat

/-- TAKE (R159): with a page TAKEN or nothing posted there is nothing to take (log 4). -/
def execTake (s : State) : Result :=
  match s.orders.taken, s.port.intake with
  | none, p :: rest =>
    let s1 := s.setPort { s.port with intake := rest }
    let s2 := s1.writeHeader p (header .taken .ok (s.pageWordCount p) 0)
    completes (s2.comeTo { page := p, word := 0, index := 0 })
  | none, [] => .next s
  | some _, _ => .next s

end Sys2Proof.Machine
end

