-- ==== Sys2Proof/Machine/Adoption.lean ====
section
/-! DEFINITION. ADOPT TABLES (R8 to R18): validation of the configuration region (R11, R174, R175), the working tables read
from it, and the completion of the adoption. -/

namespace Sys2Proof.Machine

/-! ## Words of the configuration region (R174) -/

/-- The number in configuration word a. -/
def cfg (m : Memory) (a : Nat) : Nat := (Memory.readWord m a).toNat

/-- Word of station list entry j. -/
def stationWord (j : Nat) : Nat := 0x000F + j
/-- Word i of the settings of stand k. -/
def standWord (k i : Nat) : Nat := 0x0020 + 8 * (k - 1) + i
/-- Word i of the settings of gauge g. -/
def gaugeWord (g i : Nat) : Nat := 0x0060 + 8 * (g - 1) + i
/-- Trip map word of source x. -/
def mapWord (x : Nat) : Nat := 0x0080 + x
/-- Word of group g. -/
def groupConfigWord (g : Nat) : Nat := 0x00C0 + g
/-- Word of point i of profile p. -/
def pointWord (p i : Nat) : Nat := 0x00D0 + 8 * p + (i - 1)

/-- A station list word as an entry (R174). -/
def stationKind (w : Nat) : StationKind := if w = 0x10 then .stand else .gauge (w % 16)

/-- The station list of the region, entries 1 to M; M is at most 12 in a valid region. -/
def stationList (m : Memory) : List StationKind :=
  (upTo (min 12 (cfg m 4))).map (fun j => stationKind (cfg m (stationWord j)))

/-! ## Checks (R11, R175): a check is a word address and whether the word passes -/

/-- Checks in ascending word address. -/
abbrev Checks := List (Nat × Bool)

/-- x lies in a range. -/
def within (lo hi x : Nat) : Bool := decide (lo ≤ x) && decide (x ≤ hi)

/-- Header words. -/
def headerChecks (m : Memory) : Checks :=
  [ (0, within 50 1000 (cfg m 0) && cfg m 0 % 10 == 0),
    (1, within 1 1000 (cfg m 1)),
    (2, within 1 4095 (cfg m 2)),
    (3, within 0 1 (cfg m 3)),
    (4, within 2 12 (cfg m 4)) ]

/-- Station list word j among M: one of its values, entry 1 a STAND, no gauge named twice, at most 8 stands, and at the
last at least 2 stands. -/
def stationPasses (m : Memory) (j : Nat) : Bool :=
  let w := cfg m (stationWord j)
  let before := (stationList m).take (j - 1)
  (w == 0x10 || within 0x21 0x24 w) &&
    (j != 1 || w == 0x10) &&
    (w == 0x10 || !before.contains (stationKind w)) &&
    (w != 0x10 || decide (before.countP (· == .stand) < 8)) &&
    (j != cfg m 4 || decide (2 ≤ (before.countP (· == .stand)) + (if w = 0x10 then 1 else 0)))

/-- Station list words 1 to M. -/
def stationChecks (m : Memory) : Checks :=
  (upTo (min 12 (cfg m 4))).map (fun j => (stationWord j, stationPasses m j))

/-- N of the region's station list. -/
def regionStands (m : Memory) : Nat := (stationList m).countP (· == .stand)

/-- Settings of stand k. -/
def standChecks (m : Memory) (k : Nat) : Checks :=
  [ (standWord k 0, within 0 15 (cfg m (standWord k 0)) &&
      (upTo (k - 1)).all (fun i => cfg m (standWord i 0) != cfg m (standWord k 0))),
    (standWord k 1, within 0 1 (cfg m (standWord k 1))),
    (standWord k 2, within 0 1 (cfg m (standWord k 2))),
    (standWord k 3, within 2 64 (cfg m (standWord k 3))),
    (standWord k 4, within 0 60000 (cfg m (standWord k 4))),
    (standWord k 5, within 0 60000 (cfg m (standWord k 5)) && decide (cfg m (standWord k 4) < cfg m (standWord k 5))),
    (standWord k 6, within 0 2000 (cfg m (standWord k 6))) ]

/-- Gauge g is named in the region's station list. -/
def regionNames (m : Memory) (g : Nat) : Bool := (stationList m).contains (.gauge g)

/-- Settings of named gauge g. -/
def gaugeChecks (m : Memory) (g : Nat) : Checks :=
  [ (gaugeWord g 0, within 1 4 (cfg m (gaugeWord g 0)) &&
      ((upTo (g - 1)).filter (regionNames m)).all (fun i => cfg m (gaugeWord i 0) != cfg m (gaugeWord g 0))),
    (gaugeWord g 1, within 1 100 (cfg m (gaugeWord g 1))),
    (gaugeWord g 2, within 1 60 (cfg m (gaugeWord g 2))),
    (gaugeWord g 3, within 0 2000 (cfg m (gaugeWord g 3))),
    (gaugeWord g 4, within 0 2000 (cfg m (gaugeWord g 4))),
    (gaugeWord g 5, within 1 255 (cfg m (gaugeWord g 5))) ]

/-- No bit outside a mask is set. -/
def onlyBits (mask w : Word) : Bool := w &&& ~~~ mask == 0#32

/-- Trip map word of source x; sources 60 and 61 are EDGE. -/
def mapPasses (x : Nat) (w : Word) : Bool :=
  onlyBits 0x0001010F#32 w && (decide (x < 60) || !w.getLsbD 8)

/-- Word of a group: the stand set lies within stands 1 to N. -/
def groupPasses (n : Nat) (w : Word) : Bool := onlyBits 0x000303FF#32 w && decide (getField w 0 8 < 2 ^ n)

/-- Point i of profile p: in range, not below the point before, the last 1,000. -/
def pointPasses (m : Memory) (p i : Nat) : Bool :=
  within 0 1000 (cfg m (pointWord p i)) &&
    (i == 1 || decide (cfg m (pointWord p (i - 1)) ≤ cfg m (pointWord p i))) &&
    (i != 8 || cfg m (pointWord p i) == 1000)

/-- The parts above the station list: stand settings, gauge settings, trip map, groups, profiles. -/
def upperChecks (m : Memory) : Checks :=
  ((upTo (regionStands m)).map (standChecks m)).flatten ++
  (((upTo 4).filter (regionNames m)).map (gaugeChecks m)).flatten ++
  (List.range 62).map (fun x => (mapWord x, mapPasses x (Memory.readWord m (mapWord x)))) ++
  (List.range 16).map (fun g => (groupConfigWord g, groupPasses (regionStands m) (Memory.readWord m (groupConfigWord g)))) ++
  ((List.range 8).map (fun p => (upTo 8).map (fun i => (pointWord p i, pointPasses m p i)))).flatten

/-- The first failing check's address. -/
def firstBad (l : Checks) : Option Nat := (l.find? (fun c => !c.2)).map Prod.fst

/-- The first bad word of the region, or none (R11). -/
def firstBadWord (m : Memory) : Option Nat :=
  match firstBad (headerChecks m) with
  | some a => some a
  | none =>
    match firstBad (stationChecks m) with
    | some a => some a
    | none => firstBad (upperChecks m)

/-! ## The working tables of a valid region (R5, R174) -/

/-- Settings of stand k as the region gives them. -/
def readStand (m : Memory) (k : Nat) : StandSettings where
  priority := cfg m (standWord k 0)
  burst := cfg m (standWord k 1) == 1
  initialMode := if cfg m (standWord k 2) = 1 then .free else .gated
  pollInterval := cfg m (standWord k 3)
  gapMin := cfg m (standWord k 4)
  gapMax := cfg m (standWord k 5)
  trimLimit := cfg m (standWord k 6)

/-- Settings of gauge g as the region gives them. -/
def readGauge (m : Memory) (g : Nat) : GaugeSettings where
  link := cfg m (gaugeWord g 0)
  silenceTime := cfg m (gaugeWord g 1)
  standardiseLimit := cfg m (gaugeWord g 2)
  feedbackGain := cfg m (gaugeWord g 3)
  feedForwardGain := cfg m (gaugeWord g 4)
  minimumCount := cfg m (gaugeWord g 5)

/-- Trip map entry of source x as the region gives it. -/
def readMapEntry (m : Memory) (x : Nat) : MapEntry :=
  let w := Memory.readWord m (mapWord x)
  { group := getField w 0 4, level := w.getLsbD 8, masked := w.getLsbD 16 }

/-- Configuration of group g as the region gives it. -/
def readGroup (m : Memory) (g : Nat) : GroupConfig :=
  let w := Memory.readWord m (groupConfigWord g)
  { stands := BitVec.ofNat 8 (getField w 0 8), millWide := w.getLsbD 8, extending := w.getLsbD 9, cls := getField w 16 2 }

/-- The working tables that a valid region gives (R5). -/
def readTables (m : Memory) : Tables where
  slotLength := cfg m 0
  holdTime := cfg m 1
  drainAllowance := cfg m 2
  fairness := cfg m 3 == 1
  stations := stationList m
  stands := (upTo (regionStands m)).map (readStand m)
  gauges := Vector.ofFn (fun i : Fin 4 => readGauge m (i.val + 1))
  tripMap := Vector.ofFn (fun i : Fin 62 => readMapEntry m i.val)
  groups := Vector.ofFn (fun i : Fin 16 => readGroup m i.val)
  profiles := Vector.ofFn (fun i : Fin 8 => (upTo 8).map (fun j => cfg m (pointWord i.val j)))

/-! ## The completion (R12 to R17) -/

/-- A station record as an adoption creates it (R39). -/
def Station.fresh (t : Tables) (j : Nat) : Station where
  kind := numL t.stations j
  feeding := t.feeding j
  form := .empty
  lastPassed := 0
  closedCoil := none
  loaded := false
  transparent := false
  biteEntries := 0
  passages := 0
  earlyTails := 0
  mismatches := 0
  awaits := 0

/-- The working tables, the mill state, the counters and the marker (R13, items 1 to 3). -/
def State.installTables (s : State) (t : Tables) : State :=
  s.setOrders { s.orders with
    tables := some t
    mill := if s.orders.mill = .unconfigured then .ready else s.orders.mill
    adopting := none
    firstAdoption := false
    adoptionsCompleted := bump s.orders.adoptionsCompleted }

/-- The station records and span queues are created empty (R15). -/
def State.createStations (s : State) (t : Tables) : State :=
  s.setTracking { s.tracking with
    stations := (upTo t.stationCount).map (Station.fresh t)
    spans := List.replicate (t.stationCount + 1) []
    exits := [] }

/-- Stations, gauges, drives and the wait set at a successful adoption (R15). -/
def State.adoptFields (s : State) (t : Tables) : State :=
  let s1 := (upTo 4).foldl State.adoptGauge (s.createStations t)
  ((upTo 8).foldl State.adoptDrive s1).adoptBus

/-- The Protection Unit at a successful adoption (R16, R17). -/
def State.adoptGroups (s : State) : State := ((List.range 16).foldl State.adoptGroup s).resample

/-- What a successful adoption hands to channels, gauges, drives and groups (R13 to R17). The channels are taken in
ascending stand number, and so are the clamp records that they hand over (R14, R120): the model's choice (log 35). -/
def State.handOn (s : State) (t : Tables) : State :=
  (((upTo 8).foldl State.adoptChannel (s.installTables t)).adoptFields t).adoptGroups

/-- A successful adoption (R13 to R17). From UNCONFIGURED the first slot begins at the completion (R15, R80). R184 lets its
beginning stand before or after the header write: it is made here, or slotWaits leaves it to a SLOT_TIMER_EXPIRY (log 11). -/
def State.adopt (s : State) (slotWaits : Bool) (t : Tables) : State :=
  if s.orders.mill = .unconfigured then
    if slotWaits then (s.handOn t).awaitFirstSlot else (s.handOn t).firstSlot
  else s.handOn t

/-- A refused adoption (R12). -/
def State.refuseAdoption (s : State) (page bad : Nat) : State :=
  (s.setOrders { s.orders with
    adopting := none, adoptionsRefused := bump s.orders.adoptionsRefused, badWord := bad }).endPage page .invalidTable bad

/-- ADOPTION_COMPLETION (R8, R12, R13): with no adoption in flight there is nothing to complete (log 4). Every effect of R13
to R17 comes before the header write; the first slot's beginning comes before it or, with slotWaits, may come after it
(R184, log 11). -/
def execAdoptionCompletion (s : State) (slotWaits : Bool := false) : Result :=
  match s.orders.adopting, s.orders.taken with
  | some _, some t =>
    match firstBadWord s.port.mem with
    | some bad => completes (s.refuseAdoption t.page bad)
    | none => completes ((s.adopt slotWaits (readTables s.port.mem)).completeOrder t (s.orderWord t) .ok)
  | some _, none => .next s
  | none, _ => .next s

/-- The checks of ADOPT TABLES (R8). -/
def adoptChecks (args : List Word) (s : State) : List (Bool × ResultCode) :=
  [(s.orders.mill != .armed, .wrongState), (args.length == 0, .outOfRange)]

/-- The adoption begins (R8). -/
def State.beginAdoption (s : State) : State := s.setOrders { s.orders with adopting := some s.now }

/-- ADOPT_TABLES (R8): judged, then begun; its completion is an event of its own (log 18). -/
def execAdoptTables (s : State) : Result :=
  match s.waitingOrder with
  | none => .next s
  | some t =>
    if orderCode (s.orderWord t) = 0x01 then
      if firstFailure (adoptChecks (s.orderArguments t) s) = .ok then completes s.beginAdoption
      else completes (s.completeOrder t (s.orderWord t) (firstFailure (adoptChecks (s.orderArguments t) s)))
    else .next s

end Sys2Proof.Machine
end

