-- ==== Sys2Proof/Machine/Orders.lean ====
section
/-! DEFINITION. The orders of one action: each judged by its checks in the order of its rule, then carried out (R160). -/

namespace Sys2Proof.Machine

/-- The mill is READY or ARMED. -/
def State.inService (s : State) : Bool := s.configured

/-- A number names a stand in the layout: 1 to N. -/
def State.isStand (s : State) (k : Nat) : Bool := decide (1 ≤ k) && decide (k ≤ s.standCount)

/-- No entry of a list is below the one before it. -/
def nonDecreasing : List Nat → Bool
  | [] => true
  | [_] => true
  | a :: b :: rest => decide (a ≤ b) && nonDecreasing (b :: rest)

/-! ## Mill state (R19, R20) and slot length (R81) -/

/-- The mill state set. -/
def State.setMill (s : State) (m : MillState) : State := s.setOrders { s.orders with mill := m }

/-- ARM MILL's rule (R19). -/
def armRule : OrderRule := fun args s =>
  judged [(s.orders.mill == .ready, .wrongState), (args.length == 0, .outOfRange)] s
    ((s.setMill .armed).mapStations Station.atArming, .ok)

/-- ARM_MILL (R19). -/
def execArmMill (s : State) : Result := orderStep 0x02 armRule s

/-- DISARM MILL's rule (R20). -/
def disarmRule : OrderRule := fun args s =>
  judged
    [(s.armed, .wrongState), (args.length == 0, .outOfRange), (Status.coilsUsed s.tracking == 0, .coilsPresent)] s
    ((s.setMill .ready).mapStations Station.atDisarming, .ok)

/-- DISARM_MILL (R20). -/
def execDisarmMill (s : State) : Result := orderStep 0x03 disarmRule s

/-- The working tables changed by f. -/
def State.onTables (s : State) (f : Tables → Tables) : State :=
  s.setOrders { s.orders with tables := s.orders.tables.map f }

/-- SET SLOT LENGTH's rule (R81). -/
def slotLengthRule : OrderRule := fun args s =>
  judged
    [(s.inService, .wrongState), (args.length == 1, .outOfRange),
      (within 50 1000 (argument args 1) && argument args 1 % 10 == 0, .outOfRange)] s
    (s.onTables (fun t => { t with slotLength := argument args 1 }), .ok)

/-- SET_SLOT_LENGTH (R81). -/
def execSetSlotLength (s : State) : Result := orderStep 0x04 slotLengthRule s

/-! ## Coils (R27, R29, R31) -/

/-- The lengths of ANNOUNCE COIL's arguments for n stands. -/
def announcedLengths (args : List Word) (n : Nat) : List Nat := ((args.drop 2).take n).map BitVec.toNat

/-- The thicknesses of ANNOUNCE COIL's arguments for n stands. -/
def announcedThicknesses (args : List Word) (n : Nat) : List Nat := ((args.drop (2 + n)).take n).map BitVec.toNat

/-- The checks of ANNOUNCE COIL before the stores are asked (R27, steps 1 to 7). -/
def announceChecks (args : List Word) (s : State) : List (Bool × ResultCode) :=
  let n := s.standCount
  let lengths := announcedLengths args n
  let thicknesses := announcedThicknesses args n
  [ (s.armed, .wrongState),
    (args.length == 2 + 2 * n, .outOfRange),
    (numL args 1 != 0#32, .outOfRange),
    (within 1 250 (argument args 2), .outOfRange),
    (lengths.all (within 16 16383) && nonDecreasing lengths, .outOfRange),
    (thicknesses.all (within 500 30000) && nonDecreasing thicknesses.reverse, .outOfRange),
    ((s.coilById (numL args 1)).isNone, .outOfRange) ]

/-- The pool has so many free records (R25). -/
def State.poolHolds (s : State) (n : Nat) : Bool := decide (Status.poolUsed s.tracking + n ≤ Config.poolRecords)

/-- A refusal with NO_ROOM is counted (R27, R36). -/
def State.countNoRoom (s : State) : State :=
  s.setTracking { s.tracking with refusedNoRoom := bump s.tracking.refusedNoRoom }

/-- The place and pool checks and the announcement itself (R27, steps 8 and 9). -/
def announceInto (args : List Word) (s : State) : State × ResultCode :=
  match s.freePlace with
  | none => (s.countNoRoom, .noRoom)
  | some place =>
    if s.poolHolds (argument args 2) then
      (s.announceCoil place (numL args 1) (argument args 2) (announcedLengths args s.standCount)
        (announcedThicknesses args s.standCount), .ok)
    else (s.countNoRoom, .noRoom)

/-- ANNOUNCE COIL's rule (R27). -/
def announceRule : OrderRule := fun args s => judged (announceChecks args s) s (announceInto args s)

/-- ANNOUNCE_COIL (R27). -/
def execAnnounceCoil (s : State) : Result := orderStep 0x10 announceRule s

/-- The state of the coil with an id. -/
def State.coilState (s : State) (id : Word) : Option CoilState := (s.coilById id).map Coil.state

/-- WITHDRAW COIL's rule (R29). -/
def withdrawRule : OrderRule := fun args s =>
  judged
    [(s.armed, .wrongState), (args.length == 1, .outOfRange), ((s.coilById (numL args 1)).isSome, .unknownCoil),
      (s.coilState (numL args 1) == some .announced, .coilEntered)] s
    (s.withdrawCoil (numL args 1), .ok)

/-- WITHDRAW_COIL (R29). -/
def execWithdrawCoil (s : State) : Result := orderStep 0x11 withdrawRule s

/-- SCRAP COIL's rule (R31). -/
def scrapRule : OrderRule := fun args s =>
  judged
    [(s.armed, .wrongState), (args.length == 1, .outOfRange), ((s.coilById (numL args 1)).isSome, .unknownCoil)] s
    (if s.coilState (numL args 1) = some .ended then s else s.scrapCoil (numL args 1), .ok)

/-- SCRAP_COIL (R31). -/
def execScrapCoil (s : State) : Result := orderStep 0x12 scrapRule s

/-! ## Stations and gauges (R56, R74, R75) -/

/-- ADVANCE STATION's rule (R56). -/
def advanceRule : OrderRule := fun args s =>
  let j := argument args 1
  judged
    [(s.armed, .wrongState), (args.length == 1, .outOfRange), (within 1 s.stationCount j, .outOfRange),
      ((s.station j).bite.isSome, .wrongState)] s
    (match (s.station j).bite with
      | some key => s.advanceStation j key
      | none => s, .ok)

/-- ADVANCE_STATION (R56). -/
def execAdvanceStation (s : State) : Result := orderStep 0x13 advanceRule s

/-- The checks that OMIT GAUGE and RESTORE GAUGE share (R74). -/
def gaugeOrderChecks (args : List Word) (s : State) : List (Bool × ResultCode) :=
  [(s.inService, .wrongState), (args.length == 1, .outOfRange), (s.namedGauges.contains (argument args 1), .outOfRange)]

/-- OMIT GAUGE's rule (R74). -/
def omitRule : OrderRule := fun args s =>
  judged (gaugeOrderChecks args s) s
    (if (s.gauge (argument args 1)).state = .omitted then s else s.omitGauge (argument args 1), .ok)

/-- OMIT_GAUGE (R74). -/
def execOmitGauge (s : State) : Result := orderStep 0x18 omitRule s

/-- RESTORE GAUGE's rule (R75). -/
def restoreRule : OrderRule := fun args s =>
  judged (gaugeOrderChecks args s ++ [((s.gauge (argument args 1)).state == .omitted, .wrongState)]) s
    (s.restoreGauge (argument args 1), .ok)

/-- RESTORE_GAUGE (R75). -/
def execRestoreGauge (s : State) : Result := orderStep 0x19 restoreRule s

/-! ## Plans (R104, R105, R108, R111, R112) -/

/-- The steps suit the profile code (R104, check 6). -/
def stepsSuit (profile steps : Nat) : Bool :=
  if profile ≤ 7 then steps == 8 || steps == 16 || steps == 32 || steps == 64
  else if profile = 8 then within 1 64 steps
  else profile == 9 && steps == 1

/-- The key that PLAN GAP names. -/
def planKey (args : List Word) : SegKey := { coil := numL args 2, number := argument args 3 }

/-- The plan is for now: coil id and segment number are both 0. -/
def plansNow (args : List Word) : Bool := numL args 2 == 0#32 && argument args 3 == 0

/-- Coil id and segment number are both non-zero. -/
def plansTied (args : List Word) : Bool := numL args 2 != 0#32 && argument args 3 != 0

/-- The checks of PLAN GAP (R104). -/
def planChecks (args : List Word) (s : State) : List (Bool × ResultCode) :=
  let k := argument args 1
  [ (s.inService, .wrongState),
    (args.length == 6, .outOfRange),
    (s.isStand k, .outOfRange),
    ((s.channel k).state.running, .wrongState),
    (within (s.standSettings k).gapMin (s.standSettings k).gapMax (argument args 4), .outOfRange),
    (stepsSuit (argument args 5) (argument args 6), .outOfRange),
    (plansNow args || plansTied args, .outOfRange),
    (plansNow args || s.armed, .wrongState),
    (plansNow args || (s.coilById (numL args 2)).isSome, .unknownCoil),
    (plansNow args || within 1 (((s.coilById (numL args 2)).map Coil.segCount).getD 0) (argument args 3), .outOfRange) ]

/-- The entry that PLAN GAP makes. -/
def planEntry (args : List Word) : PlanEntry where
  key := planKey args
  target := argument args 4
  profile := argument args 5
  steps := argument args 6
  due := false

/-- The segment of a key has been freed, is SHORTENED, or is no longer upstream of stand k (R105). -/
def State.segmentLate (s : State) (k : Nat) (key : SegKey) : Bool :=
  match s.segment key, s.spanIndex key with
  | some x, some j => x.shortened || decide (s.stationOfStand k ≤ j)
  | _, _ => true

/-- A tied plan comes too late (R105). -/
def State.planLate (s : State) (k : Nat) (key : SegKey) : Bool :=
  s.coilState key.coil == some .ended || s.segmentLate k key

/-- A WAITING entry with the same key is replaced in place (R105). -/
def replaceWaiting (e : PlanEntry) (l : List PlanEntry) : List PlanEntry :=
  l.map (fun x => if x.key = e.key ∧ x.due = false then e else x)

/-- The list has a WAITING entry with this key. -/
def hasWaiting (key : SegKey) (l : List PlanEntry) : Bool := l.any (fun x => x.key == key && !x.due)

/-- A plan list set. -/
def State.setPlans (s : State) (k : Nat) (l : List PlanEntry) : State := s.onChannel k (fun c => { c with plans := l })

/-- A tied plan whose segment is upstream of the stand and not its bite (R105). -/
def State.storePlan (s : State) (k : Nat) (e : PlanEntry) : State × ResultCode :=
  let l := (s.channel k).plans
  if hasWaiting e.key l then (s.setPlans k (replaceWaiting e l), .ok)
  else if l.length < Config.planPlaces then (s.setPlans k (s.insertPlan l e), .ok)
  else (s, .noRoom)

/-- A plan is placed by where its segment stands (R105). -/
def State.placePlan (s : State) (k : Nat) (e : PlanEntry) : State × ResultCode :=
  if e.key = nowKey then s.fireNow k e
  else if s.planLate k e.key then (s, .late)
  else if s.biteOfStand k = some e.key then s.fireNow k e
  else s.storePlan k e

/-- PLAN GAP's rule (R104, R105). -/
def planRule : OrderRule := fun args s =>
  judged (planChecks args s) s (s.placePlan (argument args 1) (planEntry args))

/-- PLAN_GAP (R104, R105). -/
def execPlanGap (s : State) : Result := orderStep 0x20 planRule s

/-- A cancel removes every entry, or those of one coil, and R110 then decides on the release flag (R108). -/
def Channel.cancel (coil : Word) (c : Channel) : Channel :=
  Channel.clearIfEmpty { c with plans := c.plans.filter (fun e => coil != 0#32 && e.key.coil != coil) }

/-- CANCEL PLANS's rule (R108). -/
def cancelRule : OrderRule := fun args s =>
  judged
    [(s.inService, .wrongState), (args.length == 2, .outOfRange), (s.isStand (argument args 1), .outOfRange),
      (numL args 2 == 0#32 || (s.coilById (numL args 2)).isSome, .unknownCoil)] s
    (s.onChannel (argument args 1) (Channel.cancel (numL args 2)), .ok)

/-- CANCEL_PLANS (R108). -/
def execCancelPlans (s : State) : Result := orderStep 0x21 cancelRule s

/-- The DUE entry's ramp starts, if there is one (R111, R112). -/
def Channel.startDue (c : Channel) : Channel :=
  match c.plans.find? (fun e => e.due) with
  | some e => Channel.startRamp e c
  | none => c

/-- SET RELEASE in a running channel: the flag is set, and in GATED mode a DUE entry's ramp starts (R111). -/
def Channel.setRelease (c : Channel) : Channel :=
  if c.mode = .gated then Channel.startDue { c with release := true } else { c with release := true }

/-- SET RELEASE's rule (R111). -/
def releaseRule : OrderRule := fun args s =>
  judged
    [(s.inService, .wrongState), (args.length == 1, .outOfRange), (s.isStand (argument args 1), .outOfRange),
      ((s.channel (argument args 1)).state.running, .wrongState)] s
    (s.onChannel (argument args 1) Channel.setRelease, .ok)

/-- SET_RELEASE (R111). -/
def execSetRelease (s : State) : Result := orderStep 0x22 releaseRule s

/-- A change of mode: the release flag clears, and to FREE a DUE entry's ramp starts (R112). -/
def Channel.setMode (m : Mode) (c : Channel) : Channel :=
  if c.mode = m then c
  else if m = .free then Channel.startDue { c with mode := m, release := false }
  else { c with mode := m, release := false }

/-- The mode that argument 2 of SET CHANNEL MODE names: 0 GATED, 1 FREE (R178). -/
def modeOf (n : Nat) : Mode := if n = 1 then .free else .gated

/-- SET CHANNEL MODE's rule (R112). -/
def modeRule : OrderRule := fun args s =>
  judged
    [(s.inService, .wrongState), (args.length == 2, .outOfRange),
      (s.isStand (argument args 1) && within 0 1 (argument args 2), .outOfRange)] s
    (s.onChannel (argument args 1) (Channel.setMode (modeOf (argument args 2))), .ok)

/-- SET_CHANNEL_MODE (R112). -/
def execSetChannelMode (s : State) : Result := orderStep 0x23 modeRule s

/-! ## Trims and profiles (R121, R117) -/

/-- The feedback trim becomes 0, and the effective target of a running channel follows (R121). -/
def State.resetTrim (s : State) (k : Nat) : State :=
  if (s.channel k).feedback = 0 then s else (s.onChannel k (fun c => { c with feedback := 0 })).recompute k

/-- RESET TRIM's rule (R121). -/
def resetTrimRule : OrderRule := fun args s =>
  judged [(s.inService, .wrongState), (args.length == 1, .outOfRange), (s.isStand (argument args 1), .outOfRange)] s
    (s.resetTrim (argument args 1), .ok)

/-- RESET_TRIM (R121). -/
def execResetTrim (s : State) : Result := orderStep 0x24 resetTrimRule s

/-- A plan entry or the ramp of a channel carries profile code p (R117). -/
def Channel.uses (p : Nat) (c : Channel) : Bool :=
  c.plans.any (fun e => e.profile == p) || ((c.ramp.map Ramp.profile) == some p)

/-- The points of DEFINE PROFILE (R117). -/
def profilePoints (args : List Word) : List Nat := (args.drop 1).map BitVec.toNat

/-- DEFINE PROFILE's rule (R117). -/
def profileRule : OrderRule := fun args s =>
  judged
    [ (s.inService, .wrongState), (args.length == 9, .outOfRange), (within 0 7 (argument args 1), .outOfRange),
      ((profilePoints args).all (within 0 1000) && nonDecreasing (profilePoints args) && argument args 9 == 1000, .outOfRange),
      (!s.channels.toList.any (Channel.uses (argument args 1)), .inUse) ] s
    (s.onTables (fun t => { t with profiles := upd t.profiles (argument args 1 + 1) (fun _ => profilePoints args) }), .ok)

/-- DEFINE_PROFILE (R117). -/
def execDefineProfile (s : State) : Result := orderStep 0x25 profileRule s

/-! ## Groups and sources (R139, R141 to R144) -/

/-- CLEAR GROUP's cases once its checks pass (R139, steps 4 to 6). -/
def State.clearGroup (s : State) (g : Nat) : State × ResultCode :=
  if (s.group g).latched = false then (s, .ok)
  else if (s.group g).owed then (s, .reportOwed)
  else (s.clearance g, if ((s.clearance g).group g).latched then .reasserted else .ok)

/-- CLEAR GROUP's rule (R139). -/
def clearGroupRule : OrderRule := fun args s =>
  judged [(s.inService, .wrongState), (args.length == 1, .outOfRange), (within 0 15 (argument args 1), .outOfRange)] s
    (s.clearGroup (argument args 1))

/-- CLEAR_GROUP (R139, R140). -/
def execClearGroup (s : State) : Result := orderStep 0x30 clearGroupRule s

/-- The result of CLEAR CLASS (R141). -/
def State.clearClassResult (s : State) (c : Nat) : ResultCode :=
  if (s.classGroups c).any (fun g => (s.group g).owed) then .reportOwed
  else if (s.clearableGroups c).any (fun g => ((s.clearClass c).group g).latched) then .reasserted
  else .ok

/-- CLEAR CLASS's rule (R141). -/
def clearClassRule : OrderRule := fun args s =>
  judged [(s.inService, .wrongState), (args.length == 1, .outOfRange), (within 0 3 (argument args 1), .outOfRange)] s
    (s.clearClass (argument args 1), s.clearClassResult (argument args 1))

/-- CLEAR_CLASS (R141). -/
def execClearClass (s : State) : Result := orderStep 0x31 clearClassRule s

/-- FORCE TRIP's rule (R144). -/
def forceTripRule : OrderRule := fun args s =>
  judged [(s.inService, .wrongState), (args.length == 0, .outOfRange)] s (s.pulse 61, .ok)

/-- FORCE_TRIP (R144). -/
def execForceTrip (s : State) : Result := orderStep 0x32 forceTripRule s

/-- The masked flag of source x in the working trip map (R142, R143). -/
def State.setMasked (s : State) (x : Nat) (b : Bool) : State :=
  s.onTables (fun t => { t with tripMap := upd t.tripMap (x + 1) (fun e => { e with masked := b }) })

/-- The checks of MASK SOURCE and UNMASK SOURCE (R142). -/
def sourceChecks (args : List Word) (s : State) : List (Bool × ResultCode) :=
  [(s.inService, .wrongState), (args.length == 1, .outOfRange), (within 0 61 (argument args 1), .outOfRange)]

/-- MASK SOURCE's rule (R142). -/
def maskRule : OrderRule := fun args s =>
  judged (sourceChecks args s) s (s.setMasked (argument args 1) true, .ok)

/-- MASK_SOURCE (R142). -/
def execMaskSource (s : State) : Result := orderStep 0x33 maskRule s

/-- UNMASK SOURCE's effect: an asserted LEVEL source acts as an assertion into its group (R143). -/
def State.unmask (s : State) (x : Nat) : State :=
  let s1 := s.setMasked x false
  if s1.asserted x && (s1.mapEntry x).level then s1.assertInto x (s1.mapEntry x).group else s1

/-- UNMASK SOURCE's rule (R143). -/
def unmaskRule : OrderRule := fun args s =>
  judged (sourceChecks args s) s (s.unmask (argument args 1), .ok)

/-- UNMASK_SOURCE (R143). -/
def execUnmaskSource (s : State) : Result := orderStep 0x34 unmaskRule s

/-! ## Reports (R171) -/

/-- FLUSH REPORTS's rule (R171): allowed in every mill state. -/
def flushRule : OrderRule := fun args s => judged [(args.length == 0, .outOfRange)] s (s.flush, .ok)

/-- FLUSH_REPORTS (R171). -/
def execFlushReports (s : State) : Result := orderStep 0x40 flushRule s

end Sys2Proof.Machine
end

