-- ==== Sys2Proof/Machine/Port.lean ====
section
/-! DEFINITION. The Exchange Port (Chapter 8): host reads and writes of exchange memory and registers, the write filter,
postings and lendings, and the three resets. -/

namespace Sys2Proof.Machine

/-! ## Host reads (R148, R149) -/

/-- The word that a host read of exchange memory word a returns (R148). -/
def State.hostRead (s : State) (a : Nat) : Word :=
  if 0x2000 ≤ a ∧ a < 0x4000 then Status.readWord s.status (a - 0x2000) else Memory.readWord s.port.mem a

/-- The STATUS register (R149, R180). -/
def State.statusRegister (s : State) : Word :=
  field 0 2 (Status.millCode s.orders.mill) ||| flagAt 2 s.orders.adopting.isSome ||| flagAt 3 s.orders.taken.isSome |||
    field 8 6 s.port.intake.length ||| field 16 7 s.reports.lent.length

/-- The word that a host read of the register at offset 4 times reg returns (R149, R180, R181). -/
def State.registerRead (s : State) (reg : Fin 8) : Word :=
  match reg with
  | 0 => field 0 12 Config.familyCode ||| field 16 8 Config.revision
  | 1 => 0#32
  | 2 => s.statusRegister
  | 3 => s.port.attention.setWidth 32
  | 4 => s.port.enables.setWidth 32
  | 5 => 0#32
  | 6 => 0#32
  | 7 => 0#32

/-! ## Dropped writes (R153) -/

/-- The counter and the record of a dropped write (R153). -/
def Port.drop (d : LastDropped) (p : Port) : Port := { p with dropped := bump p.dropped, lastDropped := some d }

/-- A dropped write (R153): counted and recorded, the port status record rewritten, then DROPPED set. -/
def State.dropWrite (s : State) (d : LastDropped) : State :=
  ((s.setPort (s.port.drop d)).publish Status.portSlot).raise .dropped

/-- A word of exchange memory is dropped. -/
def State.dropWord (s : State) (a : Nat) (reason : DropReason) : State :=
  s.dropWrite { registerBlock := false, address := a, reason := reason }

/-- A BAR0 write is dropped (R149). -/
def State.dropRegister (s : State) (reg : Fin 8) : State :=
  s.dropWrite { registerBlock := true, address := 4 * reg, reason := .register }

/-! ## Postings and lendings (R157, R158) -/

/-- A page refused at its hand-over: the header with word count kept, the counters as p counts them, then ORDER. -/
def State.refusePage (s : State) (p : Nat) (result : ResultCode) (count : Port → Port) : State :=
  let s1 := s.writeHeader p (header .refused result (s.pageWordCount p) 0)
  ((s1.setPort (count s1.port)).publish Status.portSlot).raise .order

/-- A posting of page p, its header stored (R157); the port status record is rewritten at each change (R153). -/
def State.post (s : State) (p : Nat) : State :=
  if s.port.intake.length < Config.intakePlaces then
    (s.setPort { s.port with
      intake := s.port.intake ++ [p], postingsAccepted := bump s.port.postingsAccepted }).publish Status.portSlot
  else s.refusePage p .intakeFull (fun q => { q with postingsRefused := bump q.postingsRefused })

/-- A lending of page p, its header stored (R158, R165); the records of the port and of the Report Writer are rewritten at each
change (R153, R173). -/
def State.lend (s : State) (p : Nat) : State :=
  if s.reports.lent.length < Config.lentPlaces then
    (((s.setPort { s.port with lendingsAccepted := bump s.port.lendingsAccepted }).setReports
      { s.reports with lent := s.reports.lent ++ [p] }).publish Status.portSlot).publish Status.reportSlot
  else s.refusePage p .noRoom (fun q => { q with lendingsRefused := bump q.lendingsRefused })

/-! ## The write filter (R152) -/

/-- A word of the configuration region (R9, R152). -/
def State.writeConfig (s : State) (a : Nat) (w : Word) : State :=
  if s.armed || s.orders.adopting.isSome then s.dropWord a .configurationLocked else s.storeWord a w

/-- A header word of a host-owned page p (R152). -/
def State.writePageHeader (s : State) (p : Nat) (w : Word) : State :=
  match headerState w with
  | some .free => s.writeHeader p w
  | some .posted => (s.writeHeader p w).post p
  | some .lent => (s.writeHeader p w).lend p
  | some .taken | some .done | some .failed | some .refused | some .filled | none =>
    s.dropWord (headerAddress p) .headerState

/-- Word i (0 to 63) of page p (R152). -/
def State.writePage (s : State) (p i : Nat) (w : Word) : State :=
  if partOwned (s.headerOf p) then s.dropWord (0x4000 + 64 * p + i) .partOwnedPage
  else if i = 63 then s.writePageHeader p w
  else s.storeWord (bodyAddress p i) w

/-- One word of a host write to exchange memory, judged by its region (R148, R152). -/
def State.hostWord (s : State) (a : Nat) (x : WordWrite) : State :=
  let w := mergeWord x.data (s.hostRead a) x.enables
  if a < 0x2000 then s.writeConfig a w
  else if a < 0x4000 then s.dropWord a .statusRegion
  else s.writePage ((a - 0x4000) / 64) ((a - 0x4000) % 64) w

/-- The words of a host write from word address a upward, each judged in turn (R148). -/
def State.hostWords (s : State) (a : Nat) : List WordWrite → State
  | [] => s
  | x :: rest => State.hostWords (s.hostWord a x) (a + 1) rest

/-- HOST_MEMORY_WRITE (R148, R152). A request that runs past word 0xFFFF is no access to BAR1 (log 10). -/
def execHostMemoryWrite (start : BitVec 16) (words : List WordWrite) (s : State) : Result :=
  if start.toNat + words.length ≤ 65536 then completes (s.hostWords start.toNat words)
  else .fault .outsideExchangeMemory

/-- A host write of the whole header word of page p (R152). -/
def State.hostHeader (s : State) (p : Nat) (w : Word) : State :=
  s.hostWord (headerAddress p) { data := w, enables := 15#4 }

/-- POSTING (R157): a host write of the header with state POSTED (log 9). -/
def execPosting (page : Fin 768) (header : Word) (s : State) : Result :=
  completes (s.hostHeader page (withHeaderState .posted header))

/-- LENDING (R158): a host write of the header with state LENT (log 9). -/
def execLending (page : Fin 768) (header : Word) (s : State) : Result :=
  completes (s.hostHeader page (withHeaderState .lent header))

/-- PAGE_RELEASE (R155): a host write of the header with state FREE (log 9). -/
def execPageRelease (page : Fin 768) (header : Word) (s : State) : Result :=
  completes (s.hostHeader page (withHeaderState .free header))

/-! ## Resets (R163, R164) -/

/-- The header that a soft or link reset writes to page p, if it writes one (R163). -/
def State.resetHeader (s : State) (p : Nat) : Option Word :=
  match headerState (s.headerOf p) with
  | some .posted => some (header .failed .reset (s.pageWordCount p) 0)
  | some .taken => some (header .failed .reset (s.pageWordCount p) ((s.orders.taken.map Taken.index).getD 0))
  | some .lent =>
    if s.reports.lent.head? = some p ∧ s.reports.recordCount ≠ 0 then some s.reports.filledHeader
    else some (header .free .ok 0 0)
  | some .free | some .done | some .failed | some .refused | some .filled | none => none

/-- The memory with page p dealt with by a soft or link reset. -/
def State.sweepPage (s : State) (m : Memory) (p : Nat) : Memory :=
  match s.resetHeader p with
  | some h => Memory.writeWord m (headerAddress p) h
  | none => m

/-- Exchange memory after a soft or link reset: the configuration region kept, every page header judged (R163). -/
def State.sweptMemory (s : State) : Memory := (List.range 768).foldl s.sweepPage s.port.mem

/-- The blocks after a soft or link reset: their reset values, with exchange memory as R163 leaves it and the endpoint's own
configuration kept (log 8). -/
def State.resetBlocks (s : State) : Blocks :=
  { Blocks.reset with
    port := { Blocks.reset.port with
      mem := s.sweptMemory, messagesEnabled := s.port.messagesEnabled, messagesSent := s.port.messagesSent } }

/-- A soft reset or a PCIe link reset (R163): the status region is written afresh (R154). -/
def State.softReset (s : State) : State :=
  { toBlocks := s.resetBlocks, status := Status.fresh s.resetBlocks, unstated := s.unstated, pending := s.pending }

/-- A power-on reset (R164). -/
def State.powerOn (s : State) : State :=
  { State.reset with unstated := s.unstated, pending := s.pending }

/-- POWER_ON_RESET (R164). -/
def execPowerOnReset (s : State) : Result := .next s.powerOn

/-- SOFT_RESET (R163). -/
def execSoftReset (s : State) : Result := .next s.softReset

/-- PCIE_LINK_RESET (R163). -/
def execPcieLinkReset (s : State) : Result := .next s.softReset

/-! ## The register block (R149, R150, R181) -/

/-- A host write to ATTENTION: a 1 in an enabled byte clears its bit (R150, R181). -/
def State.writeAttention (s : State) (data : Word) (enables : BitVec 4) : State :=
  if enables.getLsbD 0 then s.setPort { s.port with attention := s.port.attention &&& ~~~ data.setWidth 6 } else s

/-- A host write to ATTENTION ENABLE (R149, R181). -/
def State.writeEnables (s : State) (data : Word) (enables : BitVec 4) : State :=
  if enables.getLsbD 0 then s.setPort { s.port with enables := data.setWidth 6 } else s

/-- A host write to CONTROL: dropped when it enables a byte other than byte 0; a 1 in SOFT RESET begins a soft reset
(R149, R181). -/
def State.writeControl (s : State) (data : Word) (enables : BitVec 4) : State :=
  if enables &&& 0b1110#4 ≠ 0#4 then (s.dropRegister 1).settle
  else if enables.getLsbD 0 && data.getLsbD 0 then s.softReset
  else s

/-- ATTENTION_CLEAR (R150). -/
def execAttentionClear (data : Word) (enables : BitVec 4) (s : State) : Result := completes (s.writeAttention data enables)

/-- REGISTER_WRITE (R149). -/
def execRegisterWrite (reg : Fin 8) (data : Word) (enables : BitVec 4) (s : State) : Result :=
  match reg with
  | 0 => completes (s.dropRegister 0)
  | 1 => .next (s.writeControl data enables)
  | 2 => completes (s.dropRegister 2)
  | 3 => completes (s.writeAttention data enables)
  | 4 => completes (s.writeEnables data enables)
  | 5 => completes (s.dropRegister 5)
  | 6 => completes (s.dropRegister 6)
  | 7 => completes (s.dropRegister 7)

end Sys2Proof.Machine
end

