-- ==== Sys2Proof/Machine/Frames.lean ====
section
/-! DEFINITION. Serial frames (R182, R183): characters, the CRC, the bytes of every frame, and the judging of the characters
that a receiver takes between two rests of its line. The commands REPLY, STAND_BUS_BAD_FRAME, SAMPLE, STATE, GAUGE_BAD_FRAME,
ASSERT, DEASSERT, HEARTBEAT and PROTECTION_BAD_FRAME are what this judging yields. -/

namespace Sys2Proof.Machine

/-! ## Characters and the CRC (R182) -/

/-- A character as received: its byte and whether its stop bit was at the high level. -/
structure Character where
  byte : Byte
  stop : Bool
  deriving DecidableEq, Repr, Inhabited

/-- The ten bit times of a character sent: start bit low, bit 0 first, stop bit high (R182). -/
def characterBits (b : Byte) : List Bool := false :: ((List.range 8).map (fun i => b.getLsbD i)) ++ [true]

/-- One bit into the CRC, polynomial x^16 + x^12 + x^5 + 1 (R182). -/
def crcBit (c : BitVec 16) (b : Bool) : BitVec 16 :=
  if c.getLsbD 15 != b then (c <<< 1) ^^^ 0x1021#16 else c <<< 1

/-- One byte into the CRC, bit 7 first (R182). -/
def crcByte (c : BitVec 16) (b : Byte) : BitVec 16 :=
  [7, 6, 5, 4, 3, 2, 1, 0].foldl (fun c i => crcBit c (b.getLsbD i)) c

/-- The CRC of a frame's earlier bytes, from 0xFFFF, not inverted (R182). -/
def crc (l : List Byte) : BitVec 16 := l.foldl crcByte 0xFFFF#16

/-- A frame: its earlier bytes and the CRC, high byte first (R182). -/
def withCrc (l : List Byte) : List Byte := l ++ [(crc l).extractLsb' 8 8, (crc l).extractLsb' 0 8]

/-- The low byte of a 16-bit field, sent first (R182). -/
def lowByte (x : BitVec 16) : Byte := x.extractLsb' 0 8
/-- The high byte of a 16-bit field. -/
def highByte (x : BitVec 16) : Byte := x.extractLsb' 8 8
/-- Two bytes as a 16-bit field. -/
def twoBytes (low high : Byte) : BitVec 16 := high ++ low

/-- Byte 0 of a frame: a kind in bits 7:4, an address or input number in bits 3:0. -/
def kindByte (kind low : BitVec 4) : Byte := kind ++ low

/-- Five flags in bits 4:0 of a byte, the first in bit 0. -/
def flagByte (b0 b1 b2 b3 b4 : Bool) : Byte :=
  BitVec.ofBool false ++ BitVec.ofBool false ++ BitVec.ofBool false ++ BitVec.ofBool b4 ++ BitVec.ofBool b3 ++
    BitVec.ofBool b2 ++ BitVec.ofBool b1 ++ BitVec.ofBool b0

/-! ## Bytes of the frames (R182) -/

/-- The bytes of a request frame that the SC7 sends. -/
def requestBytes : RequestFrame → List Byte
  | .setpoint k t => withCrc [kindByte 0x1 (BitVec.ofNat 4 k), lowByte (BitVec.ofNat 16 t), highByte (BitVec.ofNat 16 t)]
  | .opening k => withCrc [kindByte 0x2 (BitVec.ofNat 4 k)]
  | .poll k => withCrc [kindByte 0x3 (BitVec.ofNat 4 k)]

/-- The bytes of a REPLY frame. -/
def replyBytes (f : ReplyFrame) : List Byte :=
  withCrc
    [ kindByte 0x8 f.address, lowByte f.actualGap, highByte f.actualGap, lowByte f.force, highByte f.force,
      lowByte f.lengthCount, highByte f.lengthCount, flagByte f.ready f.loaded f.following f.opened f.fault ]

/-- The bytes of a SAMPLE frame. -/
def sampleBytes (thickness : BitVec 16) (stripPresent doubtful : Bool) : List Byte :=
  withCrc [0x50#8, lowByte thickness, highByte thickness, flagByte stripPresent doubtful false false false]

/-- The code of a gauge state in a STATE frame. -/
def reportCode : GaugeReport → Byte
  | .ready => 0#8
  | .standardising => 1#8
  | .shuttered => 2#8
  | .fault => 3#8

/-- The gauge state of a code; none above 3 (R183). -/
def reportOf (b : Byte) : Option GaugeReport :=
  if b = 0#8 then some .ready
  else if b = 1#8 then some .standardising
  else if b = 2#8 then some .shuttered
  else if b = 3#8 then some .fault
  else none

/-- The bytes of a STATE frame. -/
def stateBytes (r : GaugeReport) : List Byte := withCrc [0x60#8, reportCode r]

/-- The bytes of an ASSERT frame. -/
def assertBytes (input : Fin 12) : List Byte := withCrc [kindByte 0xA (BitVec.ofNat 4 input)]

/-- The bytes of a DEASSERT frame. -/
def deassertBytes (input : Fin 12) : List Byte := withCrc [kindByte 0xB (BitVec.ofNat 4 input)]

/-- The bytes of a HEARTBEAT frame. -/
def heartbeatBytes : List Byte := withCrc [0xC0#8]

/-- The characters in which a partner sends bytes. -/
def sent (l : List Byte) : List Character := l.map (fun b => { byte := b, stop := true })

/-! ## Judging (R183) -/

/-- The earlier bytes of a frame of n bytes; none when a stop bit is missing, the frame is short, or its CRC fails. -/
def checkedBytes (n : Nat) (l : List Character) : Option (List Byte) :=
  let f := l.take n
  let payload := (f.map Character.byte).take (n - 2)
  if f.length = n ∧ f.all (fun c => c.stop) = true ∧ f.map Character.byte = withCrc payload then some payload else none

/-- The kind in bits 7:4 of a byte. -/
def kindOf (b : Byte) : BitVec 4 := b.extractLsb' 4 4
/-- Bits 3:0 of a byte. -/
def lowNibble (b : Byte) : BitVec 4 := b.extractLsb' 0 4

/-- A REPLY from its eight earlier bytes; none when a field is out of range or an unnamed bit is set. -/
def replyOf : List Byte → Option ReplyFrame
  | [b0, b1, b2, b3, b4, b5, b6, b7] =>
    let f : ReplyFrame :=
      { address := lowNibble b0, actualGap := twoBytes b1 b2, force := twoBytes b3 b4, lengthCount := twoBytes b5 b6,
        ready := b7.getLsbD 0, loaded := b7.getLsbD 1, following := b7.getLsbD 2, opened := b7.getLsbD 3,
        fault := b7.getLsbD 4 }
    if kindOf b0 = 0x8#4 ∧ b7.extractLsb' 5 3 = 0#3 ∧ f.inRange = true then some f else none
  | _ => none

/-- What a frame on the stand bus is: a REPLY, or a bad frame (R82, R183). -/
def standBusCommand (l : List Character) : Instr :=
  match (checkedBytes 10 l).bind replyOf with
  | some f => .reply f
  | none => .standBusBadFrame

/-- A SAMPLE from its four earlier bytes. -/
def sampleOf (link : Fin 4) : List Byte → Option Instr
  | [b0, b1, b2, b3] =>
    if b0 = 0x50#8 ∧ b3.extractLsb' 2 6 = 0#6 then
      some (.gaugeSample link (twoBytes b1 b2) (b3.getLsbD 0) (b3.getLsbD 1))
    else none
  | _ => none

/-- A STATE from its two earlier bytes. -/
def stateOf (link : Fin 4) : List Byte → Option Instr
  | [b0, b1] => if b0 = 0x60#8 then (reportOf b1).map (.gaugeState link) else none
  | _ => none

/-- What a frame on a gauge link is (R63, R183): the kind in byte 0 fixes its length. -/
def gaugeCommand (link : Fin 4) (l : List Character) : Instr :=
  let n := if (l.map Character.byte).head? = some 0x50#8 then 6 else 4
  (((checkedBytes n l).bind (fun p => if n = 6 then sampleOf link p else stateOf link p))).getD (.gaugeBadFrame link)

/-- A protection frame from its one earlier byte. -/
def protectionOf (link : Fin 4) : List Byte → Option Instr
  | [b0] =>
    if h : (lowNibble b0).toNat < 12 then
      if kindOf b0 = 0xA#4 then some (.assertInput link ⟨(lowNibble b0).toNat, h⟩)
      else if kindOf b0 = 0xB#4 then some (.deassertInput link ⟨(lowNibble b0).toNat, h⟩)
      else if b0 = 0xC0#8 then some (.heartbeat link)
      else none
    else none
  | _ => none

/-- What a frame on a protection link is (R124, R183). -/
def protectionCommand (link : Fin 4) (l : List Character) : Instr :=
  ((checkedBytes 3 l).bind (protectionOf link)).getD (.protectionBadFrame link)

end Sys2Proof.Machine
end

