-- ==== Sys2Proof/Machine/Dispatch.lean ====
section
/-! DEFINITION. The meaning of each command. -/

namespace Sys2Proof.Machine

def exec (i : Instr) (s : State) : Host.Outcome State Fault Refusal :=
  match i with
  | .powerOnReset => Sys2Proof.Machine.execPowerOnReset s
  | .softReset => Sys2Proof.Machine.execSoftReset s
  | .pcieLinkReset => Sys2Proof.Machine.execPcieLinkReset s
  | .attentionClear data enables => Sys2Proof.Machine.execAttentionClear data enables s
  | .registerWrite reg data enables => Sys2Proof.Machine.execRegisterWrite reg data enables s
  | .hostMemoryWrite start words => Sys2Proof.Machine.execHostMemoryWrite start words s
  | .posting page header => Sys2Proof.Machine.execPosting page header s
  | .lending page header => Sys2Proof.Machine.execLending page header s
  | .pageRelease page header => Sys2Proof.Machine.execPageRelease page header s
  | .take => Sys2Proof.Machine.execTake s
  | .adoptTables => Sys2Proof.Machine.execAdoptTables s
  | .adoptionCompletion slotWaits => Sys2Proof.Machine.execAdoptionCompletion s slotWaits
  | .armMill => Sys2Proof.Machine.execArmMill s
  | .disarmMill => Sys2Proof.Machine.execDisarmMill s
  | .setSlotLength => Sys2Proof.Machine.execSetSlotLength s
  | .announceCoil => Sys2Proof.Machine.execAnnounceCoil s
  | .withdrawCoil => Sys2Proof.Machine.execWithdrawCoil s
  | .scrapCoil => Sys2Proof.Machine.execScrapCoil s
  | .advanceStation => Sys2Proof.Machine.execAdvanceStation s
  | .omitGauge => Sys2Proof.Machine.execOmitGauge s
  | .restoreGauge => Sys2Proof.Machine.execRestoreGauge s
  | .planGap => Sys2Proof.Machine.execPlanGap s
  | .cancelPlans => Sys2Proof.Machine.execCancelPlans s
  | .setRelease => Sys2Proof.Machine.execSetRelease s
  | .setChannelMode => Sys2Proof.Machine.execSetChannelMode s
  | .resetTrim => Sys2Proof.Machine.execResetTrim s
  | .defineProfile => Sys2Proof.Machine.execDefineProfile s
  | .clearGroup => Sys2Proof.Machine.execClearGroup s
  | .clearClass => Sys2Proof.Machine.execClearClass s
  | .forceTrip => Sys2Proof.Machine.execForceTrip s
  | .maskSource => Sys2Proof.Machine.execMaskSource s
  | .unmaskSource => Sys2Proof.Machine.execUnmaskSource s
  | .flushReports => Sys2Proof.Machine.execFlushReports s
  | .slotTimerExpiry inReception => Sys2Proof.Machine.execSlotTimerExpiry inReception s
  | .reply frame => Sys2Proof.Machine.execReply frame s
  | .standBusBadFrame => Sys2Proof.Machine.execStandBusBadFrame s
  | .gaugeSample link thickness stripPresent doubtful => Sys2Proof.Machine.execGaugeSample link thickness stripPresent doubtful s
  | .gaugeState link report => Sys2Proof.Machine.execGaugeState link report s
  | .gaugeBadFrame link => Sys2Proof.Machine.execGaugeBadFrame link s
  | .silenceTimerExpiry gauge => Sys2Proof.Machine.execSilenceTimerExpiry gauge s
  | .standardiseTimerExpiry gauge => Sys2Proof.Machine.execStandardiseTimerExpiry gauge s
  | .assertInput link input => Sys2Proof.Machine.execAssertInput link input s
  | .deassertInput link input => Sys2Proof.Machine.execDeassertInput link input s
  | .heartbeat link => Sys2Proof.Machine.execHeartbeat link s
  | .protectionBadFrame link => Sys2Proof.Machine.execProtectionBadFrame link s
  | .lossTimerExpiry link => Sys2Proof.Machine.execLossTimerExpiry link s
  | .recordWrite => Sys2Proof.Machine.execRecordWrite s
  | .holdTimerExpiry => Sys2Proof.Machine.execHoldTimerExpiry s

end Sys2Proof.Machine
end

