-- ==== Sys2Proof/Machine/Idle.lean ====
section
/-! DEFINITION. What the part does of itself while no command waits (log 3): its engines take the step that their rules make
due (R159, R160, R167), a timer that has come expires, and otherwise a microsecond passes on the Mill Clock (R1). -/

namespace Sys2Proof.Machine

/-- The command of an order code (R178). -/
def orderCommand : Nat → Option Instr
  | 0x01 => some .adoptTables
  | 0x02 => some .armMill
  | 0x03 => some .disarmMill
  | 0x04 => some .setSlotLength
  | 0x10 => some .announceCoil
  | 0x11 => some .withdrawCoil
  | 0x12 => some .scrapCoil
  | 0x13 => some .advanceStation
  | 0x18 => some .omitGauge
  | 0x19 => some .restoreGauge
  | 0x20 => some .planGap
  | 0x21 => some .cancelPlans
  | 0x22 => some .setRelease
  | 0x23 => some .setChannelMode
  | 0x24 => some .resetTrim
  | 0x25 => some .defineProfile
  | 0x30 => some .clearGroup
  | 0x31 => some .clearClass
  | 0x32 => some .forceTrip
  | 0x33 => some .maskSource
  | 0x34 => some .unmaskSource
  | 0x40 => some .flushReports
  | _ => none

/-- The order that waits for its step, as a command (R160). -/
def State.dueOrder (s : State) : Option Instr :=
  match s.waitingOrder with
  | some t => orderCommand (orderCode (s.orderWord t))
  | none => none

/-- The take, when no page is TAKEN and the intake queue is not empty (R159). -/
def State.dueTake (s : State) : Option Instr :=
  if s.orders.taken.isNone && !s.port.intake.isEmpty then some .take else none

/-- A record write, when there is a current page and a record waits (R167). -/
def State.dueRecord (s : State) : Option Instr := if s.canWrite then some .recordWrite else none

/-- The end of an adoption at the latest instant that R8 allows; left to itself, the part begins the first slot in it
(log 11). -/
def State.dueAdoption (s : State) : Option Instr :=
  match s.orders.adopting with
  | some b => if hasCome (b + BitVec.ofNat 32 Config.adoptionLimit) s.now then some (.adoptionCompletion false) else none
  | none => none

/-- A timer's event when its instant has come. -/
def State.dueTimer (s : State) (timer : Option Word) (c : Instr) : Option Instr :=
  match timer with
  | some e => if hasCome e s.now then some c else none
  | none => none

/-- The timers in the order in which the model looks at them. -/
def State.dueTimers (s : State) : List (Option Instr) :=
  [s.dueTimer s.bus.slotTimer (.slotTimerExpiry false), s.dueTimer s.reports.hold .holdTimerExpiry] ++
  (List.finRange 4).map (fun g : Fin 4 => s.dueTimer (s.gauge (g.val + 1)).silence (.silenceTimerExpiry g)) ++
  (List.finRange 4).map (fun g : Fin 4 => s.dueTimer (s.gauge (g.val + 1)).standardise (.standardiseTimerExpiry g)) ++
  (List.finRange 4).map (fun l : Fin 4 => s.dueTimer (num s.protection.links (l.val + 1)).loss (.lossTimerExpiry l))

/-- The step that the part takes of itself, if one is due. -/
def State.dueCommand (s : State) : Option Instr :=
  ([s.dueRecord, s.dueOrder, s.dueTake, s.dueAdoption] ++ s.dueTimers).findSome? id

/-- A microsecond passes (R1). -/
def State.tick (s : State) : State := s.setClock { millTime := s.now + 1#32 }

end Sys2Proof.Machine
end

