-- ==== Sys2Proof/Machine/Step.lean ====
section
/-! DEFINITION. One step: the command at the front of the queue, or, with none waiting, what the part does of itself. -/

namespace Sys2Proof.Machine

/-- A step with no command waiting (log 3). -/
def State.idle (s : State) : Result :=
  match s.dueCommand with
  | some c => exec c s
  | none => .next s.tick

/-- One step: exec of the command at the front of the queue on the state with the rest of the queue. -/
def step (s : State) : Host.Outcome State Fault Refusal :=
  match s.pending with
  | c :: rest => exec c (s.setPending rest)
  | [] => s.idle

/-- s with the command that a table word spells at the front of its queue; s where the word spells none. -/
def State.withFetchWord (s : State) (nbits w : Nat) : State :=
  match decodeTableWord nbits w with
  | some c => s.setPending (c :: s.pending)
  | none => s

end Sys2Proof.Machine
end

