-- ==== Sys2Proof/Safety.lean ====
section
/-! DEFINITION. The properties that statements about this machine are made of: what always holds of a state, what a step
leaves as it was, and how an order's page is answered. -/

namespace Sys2Proof.Machine

/-! ## What holds of every state that a run reaches -/

/-- Exchange memory stands in its canonical form. -/
def State.memoryCanonical (s : State) : Prop := Memory.wf s.port.mem = true

/-- Every status record shows the blocks as they stand (R154, R177). -/
def State.recordsShow (s : State) : Prop := s.status.map StatusRecord.body = Status.bodies s.toBlocks

/-- STAND RUN 1 to 8 and MILL RUN stand as R136 and R137 give them. -/
def State.linesFollow (s : State) : Prop :=
  (∀ k, 1 ≤ k → k ≤ 8 →
    (s.protection.standRun.getLsbD (k - 1) = true ↔
      s.orders.mill ≠ .unconfigured ∧ ((s.channel k).state = .idle ∨ (s.channel k).state = .ramping) ∧
        ∀ g, g < 16 → (s.group g).latched = true → (s.group g).struck.getLsbD (k - 1) = false)) ∧
  (s.protection.millRun = true ↔
    s.orders.mill ≠ .unconfigured ∧ ∀ g, g < 16 → (s.group g).latched = true → (s.group g).config.millWide = false)

/-- The queues hold no more than their places (R157, R165, R172). -/
def State.queuesWithin (s : State) : Prop :=
  s.port.intake.length ≤ 32 ∧ s.reports.lent.length ≤ 64 ∧ s.reports.queue.length ≤ 16

/-- There are working tables exactly when the mill is not UNCONFIGURED (R6), and an adoption in flight belongs to a TAKEN
page and does not meet ARMED (R8). -/
def State.tablesStand (s : State) : Prop :=
  (s.orders.tables = none ↔ s.orders.mill = .unconfigured) ∧
    (s.orders.adopting ≠ none → s.orders.taken ≠ none ∧ s.orders.mill ≠ .armed)

/-- A group that owes a report is latched (R138), and a clear group holds no cause, struck set or snapshot (R129). -/
def Group.legal (g : Group) : Prop :=
  (g.owed = true → g.latched = true) ∧
    (g.latched = false →
      g.firstCause = none ∧ g.causes = 0#62 ∧ g.latchTime = 0#32 ∧ g.struck = 0#8 ∧ g.snapshot = [])

/-- Every group record is legal. -/
def State.groupsLegal (s : State) : Prop := ∀ g, g < 16 → (s.group g).legal

/-- The internal level sources follow their owners (R70, R88), and the pulse sources are clear (R127). -/
def State.sourcesFollow (s : State) : Prop :=
  (∀ k, 1 ≤ k → k ≤ 8 →
    (s.asserted (47 + k) = true ↔
      (s.drive k).answering = .lost ∨ ∃ r, (s.drive k).last = some r ∧ r.fault = true)) ∧
  (∀ g, 1 ≤ g → g ≤ 4 →
    (s.asserted (55 + g) = true ↔ (s.gauge g).state = .fault ∨ (s.gauge g).state = .silent)) ∧
  s.asserted 60 = false ∧ s.asserted 61 = false

/-- The slot in progress addresses a stand from 1 to 8 (R82). -/
def State.slotLegal (s : State) : Prop :=
  ∀ x k f, s.bus.slot = some x → x.request = some (k, f) → 1 ≤ k ∧ k ≤ 8

/-- A channel that is neither IDLE nor RAMPING has an empty plan list, no ramp, zero trims and a clear release flag (R101),
and a ramp is present exactly while RAMPING (R99). -/
def Channel.legal (c : Channel) : Prop :=
  (c.ramp ≠ none ↔ c.state = .ramping) ∧
    (c.state ≠ .idle → c.state ≠ .ramping →
      c.plans = [] ∧ c.feedback = 0 ∧ c.feedForward = 0 ∧ c.release = false)

/-- Every channel is legal. -/
def State.channelsLegal (s : State) : Prop := ∀ k, 1 ≤ k → k ≤ 8 → (s.channel k).legal

/-- The channels 1 to N are present and the others ABSENT (R6), and the stand sets of the clear groups, of the working
tables and of the latches name stands 1 to N alone (R5, R129). -/
def State.layoutStands (s : State) : Prop :=
  (∀ k, 1 ≤ k → k ≤ 8 → ((s.channel k).state ≠ .absent ↔ k ≤ s.standCount)) ∧
  (∀ g, g < 16 → ∀ k, 1 ≤ k → k ≤ 8 → s.standCount < k →
    ((s.group g).latched = true → holds (s.group g).struck k = false) ∧
    ((s.group g).latched = false → holds (s.group g).config.stands k = false) ∧
    holds (s.workingGroup g).stands k = false)

/-- A channel is OPENING or OPEN exactly when a latched group strikes its stand (R135). -/
def State.struckOpen (s : State) : Prop :=
  ∀ k, 1 ≤ k → k ≤ 8 →
    (((s.channel k).state = .opening ∨ (s.channel k).state = .opened) ↔
      ∃ g, g < 16 ∧ (s.group g).latched = true ∧ holds (s.group g).struck k = true)

/-- The effective target of a running channel is its current plan value plus its trims, clamped to the stand's gap limits
(R118), and its clamp flag says whether the sum lies beyond them (R120). -/
def State.targetsFollow (s : State) : Prop :=
  ∀ k, 1 ≤ k → k ≤ 8 → (s.channel k).state = .idle ∨ (s.channel k).state = .ramping →
    let sum : Int := (s.channel k).planValue + (s.channel k).feedback + (s.channel k).feedForward
    let lo : Int := (s.standSettings k).gapMin
    let hi : Int := (s.standSettings k).gapMax
    ((s.channel k).effective : Int) = (if sum < lo then lo else if hi < sum then hi else sum) ∧
      ((s.channel k).clamp = true ↔ sum < lo ∨ hi < sum)

/-- The working tables lie in the ranges that R5 gives them. -/
def Tables.inRange (t : Tables) : Prop :=
  (50 ≤ t.slotLength ∧ t.slotLength ≤ 1000 ∧ t.slotLength % 10 = 0) ∧
  (1 ≤ t.holdTime ∧ t.holdTime ≤ 1000) ∧
  (1 ≤ t.drainAllowance ∧ t.drainAllowance ≤ 4095) ∧
  (2 ≤ t.stationCount ∧ t.stationCount ≤ 12) ∧
  (2 ≤ t.standCount ∧ t.standCount ≤ 8) ∧
  t.stands.length = t.standCount ∧
  (∀ k, 1 ≤ k → k ≤ t.standCount →
    (numL t.stands k).priority ≤ 15 ∧ 2 ≤ (numL t.stands k).pollInterval ∧ (numL t.stands k).pollInterval ≤ 64 ∧
      (numL t.stands k).gapMin < (numL t.stands k).gapMax ∧ (numL t.stands k).gapMax ≤ 60000 ∧
      (numL t.stands k).trimLimit ≤ 2000 ∧
      ∀ i, 1 ≤ i → i < k → (numL t.stands i).priority ≠ (numL t.stands k).priority) ∧
  (∀ g, 1 ≤ g → g ≤ 4 → t.named g = true →
    1 ≤ (num t.gauges g).link ∧ (num t.gauges g).link ≤ 4 ∧
      1 ≤ (num t.gauges g).silenceTime ∧ (num t.gauges g).silenceTime ≤ 100 ∧
      1 ≤ (num t.gauges g).standardiseLimit ∧ (num t.gauges g).standardiseLimit ≤ 60 ∧
      (num t.gauges g).feedbackGain ≤ 2000 ∧ (num t.gauges g).feedForwardGain ≤ 2000 ∧
      1 ≤ (num t.gauges g).minimumCount ∧ (num t.gauges g).minimumCount ≤ 255 ∧
      ∀ i, 1 ≤ i → i < g → t.named i = true → (num t.gauges i).link ≠ (num t.gauges g).link) ∧
  (∀ x, x < 62 → (num t.tripMap (x + 1)).group < 16) ∧
  (num t.tripMap 61).level = false ∧ (num t.tripMap 62).level = false ∧
  (∀ g, g < 16 → (num t.groups (g + 1)).cls < 4 ∧ (num t.groups (g + 1)).stands.toNat < 2 ^ t.standCount) ∧
  (∀ p, p < 8 → (num t.profiles (p + 1)).length = 8 ∧ (∀ x, x ∈ num t.profiles (p + 1) → x ≤ 1000) ∧
    numL (num t.profiles (p + 1)) 8 = 1000 ∧
    ∀ i, 1 ≤ i → i < 8 → numL (num t.profiles (p + 1)) i ≤ numL (num t.profiles (p + 1)) (i + 1))

/-- The working tables, when there are any, lie in their ranges. -/
def State.tablesInRange (s : State) : Prop := ∀ t, s.orders.tables = some t → t.inRange

/-- There are M stations and M + 1 spans, and each gauge's station is one of them (R3, R4). -/
def State.spansStand (s : State) : Prop :=
  s.tracking.stations.length = s.stationCount ∧
    (s.orders.tables ≠ none → s.tracking.spans.length = s.stationCount + 1) ∧
    (∀ g, 1 ≤ g → g ≤ 4 → (s.gauge g).state ≠ .absent →
      ∃ j, (s.gauge g).station = some j ∧ 1 ≤ j ∧ j ≤ s.stationCount)

/-- The stations are those of the station list: kind and feeding stand (R3, R4). -/
def State.stationsFollow (s : State) : Prop :=
  ∀ t, s.orders.tables = some t → ∀ j, 1 ≤ j → j ≤ t.stationCount →
    (s.station j).kind = numL t.stations j ∧ (s.station j).feeding = t.feeding j

/-- A gauge is ABSENT exactly when the station list does not name it; an ABSENT gauge's timers are stopped, and any other
gauge has the station that the list gives it (R3, R15, R66). -/
def State.gaugesStand (s : State) : Prop :=
  ∀ g, 1 ≤ g → g ≤ 4 →
    ((s.gauge g).state = .absent ↔ g ∉ s.namedGauges) ∧
    ((s.gauge g).state = .absent → (s.gauge g).silence = none ∧ (s.gauge g).standardise = none) ∧
    (∀ t, s.orders.tables = some t → (s.gauge g).state ≠ .absent → (s.gauge g).station = t.stationOfGauge g)

/-- The front rule has nothing to move and no station a segment to take, and a bite is the front of the span before its
station (R42, R43, R48). -/
def State.stripSettled (s : State) : Prop :=
  ∀ j, 1 ≤ j → j ≤ s.stationCount →
    (∀ x rest, s.span (j - 1) = x :: rest →
      x.shortened = false ∧ (s.station j).transparent = false ∧ (s.station j).closedCoil ≠ some x.key.coil ∧
        (s.station j).form ≠ .awaiting x.key.coil) ∧
    (∀ b a, (s.station j).form = .threaded b a →
      (s.station j).closedCoil = none ∧ ∃ x rest, s.span (j - 1) = x :: rest ∧ x.key = b)

/-- An ANNOUNCED coil has not entered the mill: its segments stand in span 0 alone and none is a bite; and no segment of span
0 is SHORTENED or of the coil that station 1 closed or awaits (R23, R29, R42, R60). -/
def State.announcedWait (s : State) : Prop :=
  (∀ id c, s.coilById id = some c → c.state = .announced →
    (∀ j x, 1 ≤ j → x ∈ s.span j → x.key.coil ≠ id) ∧
      ∀ t b, t ∈ s.tracking.stations → t.bite = some b → b.coil ≠ id) ∧
  ∀ x, x ∈ s.span 0 →
    x.shortened = false ∧ (s.station 1).closedCoil ≠ some x.key.coil ∧ (s.station 1).form ≠ .awaiting x.key.coil

/-- The keys of the segments in use, span by span. -/
def State.segmentKeys (s : State) : List SegKey := s.tracking.spans.flatten.map Segment.key

/-! ## Values after a reset -/

/-- Every block holds its values after a reset: those that the rules give (R1, R7, R37, R39, R63, R66, R84, R98, R99, R125,
R129, R147, R149, R153, R157, R159, R165, R172, R173) and, by the model's choice (log 23), a request presented of none, a
clear grant, an effective target of 0 and no slot in progress; no first slot waits (the model's field, log 11). Exchange
memory is not spoken of. -/
def State.atReset (t : State) : Prop :=
  t.clock.millTime = 0#32 ∧
  (t.port.attention = 0#6 ∧ t.port.enables = 0#6 ∧ t.port.intake = [] ∧ t.port.dropped = 0 ∧ t.port.lastDropped = none ∧
    t.port.postingsAccepted = 0 ∧ t.port.postingsRefused = 0 ∧ t.port.lendingsAccepted = 0 ∧
    t.port.lendingsRefused = 0 ∧ t.port.pagesDone = 0 ∧ t.port.pagesFailed = 0) ∧
  (t.orders.mill = .unconfigured ∧ t.orders.tables = none ∧ t.orders.taken = none ∧ t.orders.adopting = none ∧
    t.orders.firstAdoption = true ∧ t.orders.adoptionsCompleted = 0 ∧ t.orders.adoptionsRefused = 0 ∧
    t.orders.badWord = 0) ∧
  ((∀ i, 1 ≤ i → i ≤ 8 → num t.tracking.coils i = none) ∧ t.tracking.counter = 1#32 ∧ t.tracking.accepted = 0 ∧
    t.tracking.refusedNoRoom = 0 ∧ t.tracking.stations = [] ∧ t.tracking.spans = [] ∧ t.tracking.exits = []) ∧
  (∀ g, 1 ≤ g → g ≤ 4 → t.gauge g = Gauge.fresh ∧ num t.gaugeLinks g = { good := 0, bad := 0 }) ∧
  (t.bus.slotTimer = none ∧ t.bus.firstLength = none ∧ t.bus.slot = none ∧ t.bus.owner = none ∧ t.bus.emptySlots = 0 ∧
    t.bus.badFrames = 0 ∧ t.bus.wrongAddress = 0 ∧ t.bus.strays = 0) ∧
  (∀ k, 1 ≤ k → k ≤ 8 → t.drive k = Drive.fresh ∧ num t.bus.waits k = none ∧ t.channel k = Channel.fresh) ∧
  (∀ l, 1 ≤ l → l ≤ 4 → num t.protection.links l = ProtectionLink.fresh) ∧
  ((∀ x, x < 62 → t.asserted x = decide (x < 48)) ∧ (∀ g, g < 16 → t.group g = Group.fresh) ∧
    t.protection.standRun = 0#8 ∧ t.protection.millRun = false) ∧
  (t.reports.lent = [] ∧ t.reports.wordCount = 0 ∧ t.reports.recordCount = 0 ∧ t.reports.hold = none ∧
    t.reports.queue = [] ∧ t.reports.returned = 0 ∧ t.reports.written = 0 ∧ t.reports.lost = 0)

/-! ## What a step leaves as it was -/

/-- Everything but the Exchange Port, the Report Writer, the trip lines and the status region is as it was. -/
def State.unitsKept (s t : State) : Prop :=
  t.clock = s.clock ∧ t.orders = s.orders ∧ t.tracking = s.tracking ∧ t.gauges = s.gauges ∧
    t.gaugeLinks = s.gaugeLinks ∧ t.bus = s.bus ∧ t.channels = s.channels ∧
    t.protection.links = s.protection.links ∧ t.protection.sources = s.protection.sources ∧
    t.protection.groups = s.protection.groups ∧ t.unstated = s.unstated ∧ t.pending = s.pending

/-- Every byte of exchange memory outside word w reads as it did. -/
def State.otherBytesKept (s t : State) (w : Nat) : Prop :=
  ∀ a, a < 4 * w ∨ 4 * w + 3 < a → Memory.read t.port.mem a = Memory.read s.port.mem a

/-- Every byte of exchange memory reads as it did. -/
def State.bytesKept (s t : State) : Prop := ∀ a, Memory.read t.port.mem a = Memory.read s.port.mem a

/-- Of the Exchange Port's registers, queue and counters everything is as it was but ATTENTION, the count of messages and
the counters of pages DONE and FAILED. -/
def State.portKept (s t : State) : Prop :=
  t.port.enables = s.port.enables ∧ t.port.intake = s.port.intake ∧ t.port.dropped = s.port.dropped ∧
    t.port.lastDropped = s.port.lastDropped ∧ t.port.postingsAccepted = s.port.postingsAccepted ∧
    t.port.postingsRefused = s.port.postingsRefused ∧ t.port.lendingsAccepted = s.port.lendingsAccepted ∧
    t.port.lendingsRefused = s.port.lendingsRefused ∧ t.port.messagesEnabled = s.port.messagesEnabled

/-- ATTENTION and the count of messages are as they were. -/
def State.attentionKept (s t : State) : Prop :=
  t.port.attention = s.port.attention ∧ t.port.messagesSent = s.port.messagesSent

/-- The event of bit a has set it and no other bit has changed; a message has been sent exactly when the bit went from
clear to set while its enable and the endpoint's messages were on (R150, R151). -/
def State.attentionRaised (s t : State) (a : Attention) : Prop :=
  (∀ b, t.attentionIs b = (s.attentionIs b || b == a)) ∧
    t.port.messagesSent = s.port.messagesSent +
      (if s.attentionIs a = false ∧ s.port.enables.getLsbD a.bit = true ∧ s.port.messagesEnabled = true then 1 else 0)

/-- A host write has been dropped (R153): memory and registers unchanged, the counter, the address and the reason, DROPPED. -/
def State.writeDropped (s t : State) (d : LastDropped) : Prop :=
  s.bytesKept t ∧ s.unitsKept t ∧ t.reports = s.reports ∧
    t.port = { s.port with
      mem := t.port.mem, dropped := bump s.port.dropped, lastDropped := some d
      attention := t.port.attention, messagesSent := t.port.messagesSent } ∧
    s.attentionRaised t .dropped

/-- A word of a host write to word address a has been stored (R148, R152): its enabled bytes are the data's, its other bytes and
all other bytes of exchange memory as they were, and nothing else has changed. -/
def State.wordStored (s t : State) (a : Nat) (x : WordWrite) : Prop :=
  (∀ i, i < 4 → Memory.read t.port.mem (4 * a + i) =
    if x.enables.getLsbD i then byteOf x.data i else Memory.read s.port.mem (4 * a + i)) ∧
  s.otherBytesKept t a ∧ s.unitsKept t ∧ t.reports = s.reports ∧ t.port = { s.port with mem := t.port.mem }

/-- The word that a host write would make of word a of the page region (R148). -/
def State.merged (s : State) (a : Nat) (x : WordWrite) : Word := mergeWord x.data (Memory.readWord s.port.mem a) x.enables

/-- The write filter drops a word of a host write to word address a for a reason (R152, R153). -/
def State.dropsWord (s : State) (a : Nat) (x : WordWrite) : DropReason → Prop
  | .configurationLocked => a < 0x2000 ∧ (s.orders.mill = .armed ∨ s.orders.adopting ≠ none)
  | .statusRegion => 0x2000 ≤ a ∧ a < 0x4000
  | .partOwnedPage => 0x4000 ≤ a ∧ partOwned (s.headerOf ((a - 0x4000) / 64)) = true
  | .headerState =>
    0x4000 ≤ a ∧ partOwned (s.headerOf ((a - 0x4000) / 64)) = false ∧ (a - 0x4000) % 64 = 63 ∧
      headerState (s.merged a x) ≠ some .free ∧ headerState (s.merged a x) ≠ some .posted ∧
      headerState (s.merged a x) ≠ some .lent
  | .register => False

/-- The header of page p after a soft reset or a PCIe link reset (R163). -/
def State.headerSwept (s t : State) (p : Nat) : Prop :=
  match headerState (s.headerOf p) with
  | some .posted => t.headerOf p = header .failed .reset (s.pageWordCount p) 0
  | some .taken => ∀ k, s.orders.taken = some k → t.headerOf p = header .failed .reset (s.pageWordCount p) k.index
  | some .lent =>
    if s.reports.lent.head? = some p ∧ s.reports.recordCount ≠ 0 then
      t.headerOf p = header .filled .ok s.reports.wordCount s.reports.recordCount
    else t.headerOf p = header .free .ok 0 0
  | some .free | some .done | some .failed | some .refused | some .filled | none => t.headerOf p = s.headerOf p

/-- What no order changes: the clock, the gauge links, the protection links, the queue of commands, and of the Exchange Port
all but ATTENTION with its messages, memory and the counters of ended pages. -/
def State.outsideKept (s t : State) : Prop :=
  t.clock = s.clock ∧ t.gaugeLinks = s.gaugeLinks ∧ t.protection.links = s.protection.links ∧
    t.unstated = s.unstated ∧ t.pending = s.pending ∧ s.portKept t

/-- The Order Processor but for the page being executed is as it was. -/
def State.ordersKept (s t : State) : Prop := t.orders = { s.orders with taken := t.orders.taken }

/-- Sources and groups are as they were. -/
def State.protectionKept (s t : State) : Prop :=
  t.protection.sources = s.protection.sources ∧ t.protection.groups = s.protection.groups

/-- Every block but the Order Processor and what ends a page is as it was. -/
def State.blocksKept (s t : State) : Prop :=
  s.outsideKept t ∧ t.tracking = s.tracking ∧ t.gauges = s.gauges ∧ t.bus = s.bus ∧ t.channels = s.channels ∧
    s.protectionKept t ∧ t.reports = s.reports

/-- Every channel but channel k is as it was. -/
def State.otherChannelsKept (s t : State) (k : Nat) : Prop :=
  ∀ i, 1 ≤ i → i ≤ 8 → i ≠ k → t.channel i = s.channel i

/-- Every block but channel k and what ends a page is as it was. -/
def State.onlyChannel (s t : State) (k : Nat) : Prop :=
  s.outsideKept t ∧ s.ordersKept t ∧ t.tracking = s.tracking ∧ t.gauges = s.gauges ∧ t.bus = s.bus ∧
    s.otherChannelsKept t k ∧ s.protectionKept t ∧ t.reports = s.reports

/-! ## How an order is answered (R160, R161) -/

/-- The order that waits for its step is the one at t, with this code and these arguments. -/
def State.atOrder (s : State) (t : Taken) (code : Nat) (args : List Word) : Prop :=
  s.waitingOrder = some t ∧ orderCode (s.orderWord t) = code ∧ s.orderArguments t = args

/-- The mill states in which an order is allowed (R6 and each order's rule). -/
def orderAllowed (code : Nat) (m : MillState) : Bool :=
  if code = 0x40 then true
  else if code = 0x01 then m != .armed
  else if code = 0x02 then m == .ready
  else if code = 0x03 ∨ code = 0x10 ∨ code = 0x11 ∨ code = 0x12 ∨ code = 0x13 then m == .armed
  else m != .unconfigured

/-- The argument count of an order in a mill of n stands (R178). -/
def argumentCount (code n : Nat) : Nat :=
  if code = 0x10 then 2 + 2 * n
  else if code = 0x20 then 6
  else if code = 0x21 ∨ code = 0x23 then 2
  else if code = 0x25 then 9
  else if code ≤ 0x03 ∨ code = 0x32 ∨ code = 0x40 then 0
  else 1

/-- The page has ended with a result and an item index: its header, the counters, BUSY clear and ORDER set (R161). -/
def State.pageEnded (s u : State) (page : Nat) (result : ResultCode) (item : Nat) : Prop :=
  u.orders.taken = none ∧
    u.headerOf page = header (if result = .ok then .done else .failed) result (s.pageWordCount page) item ∧
    u.port.pagesDone = (if result = .ok then bump s.port.pagesDone else s.port.pagesDone) ∧
    u.port.pagesFailed = (if result = .ok then s.port.pagesFailed else bump s.port.pagesFailed) ∧
    u.attentionIs .order = true

/-- The order at t has completed with a result: a result other than OK and a last order end the page, and any other order
brings execution to the order that follows it, judged for its length and its code (R160, R161). -/
def State.orderResult (s u : State) (t : Taken) (result : ResultCode) : Prop :=
  let n := t.following (s.orderWord t)
  (result ≠ .ok → s.pageEnded u t.page result t.index) ∧
  (result = .ok → orderMore (s.orderWord t) = false → s.pageEnded u t.page .ok (t.index + 1)) ∧
  (result = .ok → orderMore (s.orderWord t) = true →
    (s.badLength n = true → s.pageEnded u t.page .badLength n.index) ∧
    (s.badLength n = false → s.badOrder n = true → s.pageEnded u t.page .badOrder n.index) ∧
    (s.badLength n = false → s.badOrder n = false →
      u.orders.taken = some n ∧ u.headerOf t.page = s.headerOf t.page ∧ u.port.pagesDone = s.port.pagesDone ∧
        u.port.pagesFailed = s.port.pagesFailed))

/-- The order at t has completed with a result, and of exchange memory nothing but its page's header has changed. -/
def State.orderAnswered (s u : State) (t : Taken) (result : ResultCode) : Prop :=
  s.orderResult u t result ∧ s.otherBytesKept u (headerAddress t.page)

/-- An order that raises no event has set ORDER if the page ended with it, and has touched no other attention bit. -/
def State.quiet (s u : State) : Prop :=
  (u.orders.taken = none → s.attentionRaised u .order) ∧ (u.orders.taken ≠ none → s.attentionKept u)

/-- The order at t has completed with a result and changed nothing else. -/
def State.onlyAnswered (s u : State) (t : Taken) (result : ResultCode) : Prop :=
  s.orderAnswered u t result ∧ s.quiet u ∧ s.ordersKept u ∧ s.blocksKept u

/-! ## What channels, latches and records hold after an event -/

/-- The effective target of channel c under the settings of stand k (R118). -/
def State.targetOf (s : State) (k : Nat) (c : Channel) : Int :=
  let sum : Int := (c.planValue : Int) + c.feedback + c.feedForward
  let lo : Int := (s.standSettings k).gapMin
  let hi : Int := (s.standSettings k).gapMax
  if sum < lo then lo else if hi < sum then hi else sum

/-- The ramp that starts from an entry in a channel (R113). -/
def Channel.rampFrom (c : Channel) (e : PlanEntry) : Ramp where
  start := c.planValue
  final := e.target
  profile := e.profile
  steps := e.steps
  sent := 0
  stepDue := true
  followingAwaited := false
  notFollowing := 0

/-- Channel c has started the ramp of entry e and become c' (R109, R110, R113). -/
def Channel.rampStarts (c c' : Channel) (e : PlanEntry) : Prop :=
  c'.state = .ramping ∧ c'.ramp = some (c.rampFrom e) ∧ c'.rampsStarted = bump c.rampsStarted ∧
    c'.plans = c.plans.filter (fun x => x.key != e.key) ∧
    c'.release = (if c.mode = .gated ∧ c'.plans = [] then false else c.release) ∧
    c' = { c with
      state := c'.state, ramp := c'.ramp, rampsStarted := c'.rampsStarted, plans := c'.plans, release := c'.release }

/-- Entries have left the list of channel c, which has become c': `kept` is what is left of the list (R107, R108, R110). -/
def Channel.plansLeft (c c' : Channel) (kept : List PlanEntry) : Prop :=
  c'.plans = kept ∧ c'.release = (if c.mode = .gated ∧ kept = [] then false else c.release) ∧
    c' = { c with plans := c'.plans, release := c'.release }

/-- Stand k is in the base of a latch with configuration c (R133). -/
def State.inBase (s : State) (c : GroupConfig) (k : Nat) : Prop :=
  if c.millWide then 1 ≤ k ∧ k ≤ s.standCount else holds c.stands k = true

/-- Stand k is to be struck by a latch with configuration c (R133): it is in the base, or the group extends and the stand's
bite is of the coil of a base stand's bite. -/
def State.mustStrike (s : State) (c : GroupConfig) (k : Nat) : Prop :=
  s.inBase c k ∨
    (c.extending = true ∧ k ≤ s.standCount ∧
      ∃ b x y, b ≤ 8 ∧ s.inBase c b ∧ s.biteOfStand b = some x ∧ s.biteOfStand k = some y ∧ x.coil = y.coil)

/-- In u group g holds a latch with configuration c, taken on the stations and drives of s (R132 to R134): latched, owed,
with the mill time, one more latch, the struck set and its snapshot, TRIP, the strikes and the trip lines. -/
def State.latchHolds (s u : State) (g : Nat) (c : GroupConfig) : Prop :=
  (u.group g).latched = true ∧ (u.group g).owed = true ∧ (u.group g).latchTime = u.clock.millTime ∧
    (u.group g).latches = bump (s.group g).latches ∧ (u.group g).config = c ∧
    (∀ k, 1 ≤ k → k ≤ 8 → (holds (u.group g).struck k = true ↔ s.mustStrike c k)) ∧
    (u.group g).snapshot = (standsOf (u.group g).struck).map s.snapEntry ∧
    u.attentionIs .trip = true ∧
    (∀ k, 1 ≤ k → k ≤ 8 → holds (u.group g).struck k = true →
      u.protection.standRun.getLsbD (k - 1) = false ∧
        ((u.channel k).state = .opening ∨ (u.channel k).state = .opened ∨ (u.channel k).state = .absent)) ∧
    (c.millWide = true → u.protection.millRun = false)

/-- Every group but group g is as it was. -/
def State.otherGroupsKept (s u : State) (g : Nat) : Prop := ∀ i, i < 16 → i ≠ g → u.group i = s.group i

/-- Source x has asserted into group g, unmasked (R131, items 2 and 3): a latched group gains x in its cause set and changes
in nothing else; a clear group latches with x as first and only cause. -/
def State.assertedInto (s u : State) (x g : Nat) : Prop :=
  s.otherGroupsKept u g ∧
    ((s.group g).latched = true →
      u.group g = { s.group g with causes := (u.group g).causes } ∧
        (∀ y, y < 62 → (u.group g).causes.getLsbD y = ((s.group g).causes.getLsbD y || y == x)) ∧
        u.bus = s.bus ∧ u.channels = s.channels ∧ u.reports = s.reports) ∧
    ((s.group g).latched = false → g < 16 →
      s.latchHolds u g (s.group g).config ∧ (u.group g).firstCause = some x ∧
        (∀ y, y < 62 → ((u.group g).causes.getLsbD y = true ↔ y = x)) ∧ u.reports = s.reports)

/-- An event record has joined the holding queue if it held fewer than 16, and has been discarded if it held 16 (R172). -/
def State.recordQueued (s u : State) (e : EventRecord) : Prop :=
  if s.reports.queue.length < 16 then
    u.reports = { s.reports with queue := s.reports.queue ++ [e] }
  else
    u.reports = { s.reports with lost := bump s.reports.lost } ∧ u.attentionIs .reportLost = true

/-- An assertion of source x has been judged (R131): masked, it leaves every group alone, hands over its WARNING record and
sets WARNING; otherwise it asserts into its group. -/
def State.assertionJudged (s u : State) (x : Nat) : Prop :=
  ((s.mapEntry x).masked = true →
    u.protection.groups = s.protection.groups ∧ u.bus = s.bus ∧ u.channels = s.channels ∧
      s.recordQueued u (.warning x (s.mapEntry x).group u.clock.millTime) ∧ u.attentionIs .warning = true) ∧
  ((s.mapEntry x).masked = false → s.assertedInto u x (s.mapEntry x).group)

/-! ## Clearance (R140) -/

/-- The resample of a clearance of group g finds source y (R140). -/
def State.resamples (s : State) (g y : Nat) : Prop :=
  y < 62 ∧ s.asserted y = true ∧ (s.mapEntry y).masked = false ∧ (s.mapEntry y).level = true ∧ (s.mapEntry y).group = g

/-- Group g has been cleared (R140, steps 1 to 3): it holds the working configuration; found by no source it is clear and
empty, and otherwise it has latched again with the sources found as its causes, the lowest the first. -/
def State.groupCleared (s u : State) (g : Nat) : Prop :=
  ((∀ y, ¬ s.resamples g y) →
    u.group g = { s.group g with
      config := s.workingGroup g, latched := false, firstCause := none, causes := 0#62, latchTime := 0#32
      struck := 0#8, owed := false, snapshot := [] }) ∧
  ((∃ y, s.resamples g y) →
    s.latchHolds u g (s.workingGroup g) ∧
      (∀ y, s.resamples g y → (∀ z, s.resamples g z → y ≤ z) → (u.group g).firstCause = some y) ∧
      ∀ y, y < 62 → ((u.group g).causes.getLsbD y = true ↔ s.resamples g y))

/-- The stands of a released set that no latched group strikes have been unstruck (R140, step 4), and a channel that was
neither released nor struck again is as it was. -/
def State.unstruck (s u : State) (released : Nat → Prop) : Prop :=
  ∀ k, 1 ≤ k → k ≤ 8 → (∀ g, g < 16 → (u.group g).latched = true → holds (u.group g).struck k = false) →
    (released k → (s.channel k).state = .opening ∨ (s.channel k).state = .opened →
      u.channel k = { s.channel k with state := .recovering }) ∧
    (¬ released k ∨ ((s.channel k).state ≠ .opening ∧ (s.channel k).state ≠ .opened) → u.channel k = s.channel k)

/-- Every block but the Stand Bus Controller is as it was. -/
def State.onlyBus (s t : State) : Prop :=
  t.clock = s.clock ∧ t.port = s.port ∧ t.orders = s.orders ∧ t.tracking = s.tracking ∧ t.gauges = s.gauges ∧
    t.gaugeLinks = s.gaugeLinks ∧ t.channels = s.channels ∧ t.protection.links = s.protection.links ∧
    s.protectionKept t ∧ t.reports = s.reports ∧ t.unstated = s.unstated ∧ t.pending = s.pending

/-- What no frame and no timer changes: the Order Processor, exchange memory and the Exchange Port's registers but
ATTENTION, and the queue of commands. -/
def State.hostSideKept (s t : State) : Prop :=
  t.orders = s.orders ∧ t.pending = s.pending ∧
    t.port = { s.port with attention := t.port.attention, messagesSent := t.port.messagesSent }

/-! ## The arbiter (R92 to R94) -/

/-- Channel k presents a request (R89). -/
def State.requests (s : State) (k : Nat) : Prop := 1 ≤ k ∧ k ≤ 8 ∧ s.request k ≠ .none

/-- w is the channel with the lowest priority value among those with property p; none when there is none. -/
def State.lowest (s : State) (p : Nat → Prop) (w : Option Nat) : Prop :=
  ((∃ k, p k) → w ≠ none) ∧
    ∀ k, w = some k → p k ∧ ∀ i, p i → (s.standSettings k).priority ≤ (s.standSettings i).priority

/-- Channel k waits once the wait set has been updated for this slot (R94). -/
def State.stillWaits (s : State) (k : Nat) : Prop :=
  ∃ m i, num s.bus.waits k = some m ∧ s.requests i ∧ holds m i = true

/-! ## Ramp values (R114) -/

/-- The plan value of step i of a ramp: the final value, a straight line, or a profile's points between the start and the final
value (R114). -/
def State.stepValue (s : State) (r : Ramp) (i : Nat) : Int :=
  let span : Int := (r.final : Int) - r.start
  let points (j : Nat) : Nat := if j = 0 then 0 else numL (s.profile r.profile) j
  let q := r.steps / 8
  let j := (i - 1) / q + 1
  let m := (i - 1) % q + 1
  if r.profile = 9 then r.final
  else if r.profile = 8 then max 0 (r.start + (span * i).tdiv r.steps)
  else max 0 (r.start + (span * (points (j - 1) + (points j - points (j - 1)) * m / q : Nat)).tdiv 1000)

/-! ## Report pages (R167, R170) -/

/-- The current page p has been returned, with `rest` the lent list behind it: header FILLED with the fill state, the next page
current and empty, the hold timer stopped, the return counted, REPORT set (R170). -/
def State.pageReturned (s u : State) (p : Nat) (rest : List Nat) : Prop :=
  u.headerOf p = header .filled .ok s.reports.wordCount s.reports.recordCount ∧
    u.reports = { s.reports with
      lent := rest, wordCount := 0, recordCount := 0, hold := none, returned := bump s.reports.returned } ∧
    u.attentionIs .report = true

/-- The record is a TRIP record. -/
def RecordSource.isTrip : RecordSource → Bool
  | .trip _ => true
  | .event _ | .segment _ | .coilDone _ => false

/-- A record that has been written has left its source (R167): the group's owed flag, the queue's front, the segment with its
exit item, or the coil with its exit item and with its id as any station's closed coil (R60). -/
def State.givenUp (s u : State) : RecordSource → Prop
  | .trip g =>
    u.group g = { s.group g with owed := false } ∧ s.otherGroupsKept u g ∧ u.reports.queue = s.reports.queue ∧
      u.tracking = s.tracking ∧ u.channels = s.channels
  | .event _ =>
    u.reports.queue = s.reports.queue.drop 1 ∧ s.protectionKept u ∧ u.tracking = s.tracking ∧ u.channels = s.channels
  | .segment key =>
    (∀ j, u.span j = if j = s.stationCount then (s.span j).drop 1 else s.span j) ∧
      (∀ c, s.coilById key.coil = some c →
        u.coilById key.coil = some { c with
          reported := c.reported + 1, inSpans := c.inSpans - 1
          state := if c.inSpans ≤ 1 then .ended else c.state } ∧
        u.tracking.exits = s.tracking.exits.drop 1 ++ (if c.inSpans ≤ 1 then [.coilDone key.coil] else [])) ∧
      u.tracking.stations = s.tracking.stations ∧ s.protectionKept u ∧ u.reports.queue = s.reports.queue ∧
      u.channels = s.channels
  | .coilDone id =>
    (∀ i, 1 ≤ i → i ≤ 8 → num u.tracking.coils i =
      if (num s.tracking.coils i).map Coil.id = some id then none else num s.tracking.coils i) ∧
      u.tracking.exits = s.tracking.exits.drop 1 ∧ u.tracking.spans = s.tracking.spans ∧
      u.tracking.stations = s.tracking.stations.map (fun x =>
        { x with closedCoil := if x.closedCoil = some id then none else x.closedCoil }) ∧
      (∀ k e, 1 ≤ k → k ≤ 8 → e ∈ (u.channel k).plans → e.key.coil ≠ id) ∧
      s.protectionKept u ∧ u.reports.queue = s.reports.queue

/-! ## The strip under a length delta (R47 to R50) -/

/-- The strip of a coil, with so much length a segment, that passes a station from the front of the span before it when the
accumulator holds acc: the segments that pass, those left in the span, and the length left. A SHORTENED segment that comes to
the front is moved on and is no passage (R42, R48). -/
def passStrip (length : Nat) (coil : Word) : List Segment → Nat → List Segment × List Segment × Nat
  | [], acc => ([], [], acc)
  | x :: rest, acc =>
    if x.shortened then passStrip length coil rest acc
    else if x.key.coil = coil ∧ length ≤ acc then
      (x :: (passStrip length coil rest (acc - length)).1, (passStrip length coil rest (acc - length)).2)
    else ([], x :: rest, acc)

/-- What passes station j, and what is left, when a delta d comes (R47, R48). Nothing passes without a delta, at a transparent
station, or at one that is not THREADED. -/
def State.stripAt (s : State) (j : Nat) (delta : Option Nat) : List Segment × List Segment × Nat :=
  match (s.station j).form, delta with
  | .threaded b acc, some d =>
    if (s.station j).transparent then ([], s.span (j - 1), acc)
    else passStrip (s.lengthAt j b.coil) b.coil (s.span (j - 1)) (acc + d)
  | .threaded _ acc, none => ([], s.span (j - 1), acc)
  | .empty, _ | .tailDrain _ _ _, _ | .untracked, _ | .awaiting _, _ => ([], s.span (j - 1), 0)

/-- The segments that pass station j when a delta comes. -/
def State.passing (s : State) (j : Nat) (delta : Option Nat) : List Segment := (s.stripAt j delta).1

/-- A segment of a coil that is not SHORTENED stands before station j, with `left` in the span before it (R43, R49). -/
def State.coilBefore (s : State) (j : Nat) (coil : Word) (left : List Segment) : Bool :=
  ((s.tracking.spans.take (j - 1)).flatten ++ left).any (fun x => x.key.coil == coil && !x.shortened)

/-- The form of a station that awaits a coil's next segment, or drains when none is left (R43, R49). -/
def State.awaitOrDrain (s : State) (j : Nat) (coil : Word) (left : List Segment) : StationForm :=
  if s.coilBefore j coil left then .awaiting coil else .tailDrain coil true 0

/-- The form of station j once a delta has been applied (R47 to R50). -/
def State.formAfter (s : State) (j : Nat) (delta : Option Nat) : StationForm :=
  match (s.station j).form, delta with
  | .threaded b acc, some d =>
    match s.stripAt j delta with
    | ([], _, _) => .threaded b (if (s.station j).transparent then acc else acc + d)
    | (_, x :: rest, left) => if x.key.coil = b.coil then .threaded x.key left else s.awaitOrDrain j b.coil (x :: rest)
    | (_, [], _) => s.awaitOrDrain j b.coil []
  | .tailDrain c true l, some d =>
    if (s.station j).transparent then .tailDrain c true l else .tailDrain c (decide (l + d ≤ s.drainAllowance)) (l + d)
  | .awaiting c, _ => s.awaitOrDrain j c (s.span (j - 1))
  | f, _ => f

/-- The delta overruns station j's drain allowance (R50). -/
def State.overruns (s : State) (j : Nat) (delta : Option Nat) : Prop :=
  (s.station j).transparent = false ∧
    ∃ c l d, (s.station j).form = .tailDrain c true l ∧ delta = some d ∧ s.drainAllowance < l + d

/-- The counters and last passed of station j once the segments p have passed it (R49, R51, R52, R62): a passage each, a bite
entry for each that another bite follows, an await where it ends awaiting. -/
def State.passagesCounted (s u : State) (j : Nat) (p : List Segment) : Prop :=
  (u.station j).passages = Nat.repeat bump p.length (s.station j).passages ∧
    (u.station j).lastPassed = ((p.getLast?).map (fun x => x.key.number)).getD (s.station j).lastPassed ∧
    (u.station j).biteEntries =
      Nat.repeat bump (if (u.station j).bite = none then p.length - 1 else p.length) (s.station j).biteEntries ∧
    (u.station j).awaits =
      (if p ≠ [] ∧ ∃ c, (u.station j).form = .awaiting c then bump (s.station j).awaits else (s.station j).awaits)

/-- Segment x has passed station j (R41, R52): it stands in span j or beyond, and at a stand it carries the gap and the force of
the reply. -/
def State.segmentPassed (u : State) (j : Nat) (x : Segment) (gap force : Nat) : Prop :=
  ∃ i y, j ≤ i ∧ y ∈ u.span i ∧ y.key = x.key ∧
    ((u.station j).kind = .stand →
      (num y.stands (u.station j).feeding).gap = some gap ∧ (num y.stands (u.station j).feeding).force = some force)

/-- An overrun at station j (R50, R54, R55): the mismatch is counted and WARNING set, and source 60, when it is unmasked, is a
cause of its group, which is latched. -/
def State.mismatchRaised (s u : State) (j : Nat) : Prop :=
  (u.station j).mismatches = bump (s.station j).mismatches ∧ u.attentionIs .warning = true ∧
    ((s.mapEntry 60).masked = false → (s.mapEntry 60).group < 16 →
      (u.group (s.mapEntry 60).group).latched = true ∧ (u.group (s.mapEntry 60).group).causes.getLsbD 60 = true)

/-! ## Channels at bite entries, passages and adoptions (R14, R77, R78, R106, R107) -/

/-- A trim held to plus and minus a limit. -/
def heldTo (limit : Nat) (x : Int) : Int := if x < -(limit : Int) then -limit else if limit < x then limit else x

/-- The correction by a measurement block and a gain in per mille, truncated toward zero (R77, R78). -/
def trimChange (m : MeasBlock) (gain : Nat) : Int := (-(m.sum.tdiv m.count) * gain).tdiv 1000

/-- Channel c with its effective target and clamp flag judged anew under the settings of stand k, a clamp that begins counted
(R118, R120). -/
def State.judged (s : State) (k : Nat) (c : Channel) : Channel :=
  let sum : Int := (c.planValue : Int) + c.feedback + c.feedForward
  let beyond : Bool := decide (sum < (s.standSettings k).gapMin) || decide (((s.standSettings k).gapMax : Int) < sum)
  if c.state = .idle ∨ c.state = .ramping then
    { c with
      effective := (s.targetOf k c).toNat, clamp := beyond
      clamps := if beyond && !c.clamp then bump c.clamps else c.clamps }
  else c

/-- Channel c with an entry that has fired (R109): its ramp has started in FREE mode or with the release flag set, and
otherwise it is the one DUE entry. -/
def Channel.fired (c c' : Channel) (e : PlanEntry) : Prop :=
  (c.mode = .free ∨ c.release = true → c.rampStarts c' e) ∧
    (c.mode = .gated → c.release = false →
      c' = { c with
        plans := (c.plans.filter (fun x => x.key == e.key || !x.due)).map
          (fun x => if x.key = e.key then { x with due := true } else x) })

/-- The gauge and the measurement that set stand k's feed-forward trim at the entry of a segment (R78). -/
def State.feedsForward (s : State) (k : Nat) (key : SegKey) (g : Nat) (m : MeasBlock) : Prop :=
  2 ≤ s.stationOfStand k ∧ (s.station (s.stationOfStand k - 1)).kind = .gauge g ∧
    (∃ x, s.segment key = some x ∧ m = num x.meas g) ∧ (s.gaugeSettings g).minimumCount ≤ m.count ∧ m.count ≠ 0

/-- In u channel k has taken the bite entry of a segment (R78, R106): a WAITING entry of its key has fired, the feed-forward
trim of a running channel is set anew, and the segment carries the effective target of a running channel. -/
def State.biteTaken (s u : State) (k : Nat) (key : SegKey) : Prop :=
  ∃ c v,
    (∀ e, (s.channel k).plans.find? (fun x => !x.due && x.key == key) = some e → (s.channel k).fired c e) ∧
    ((s.channel k).plans.find? (fun x => !x.due && x.key == key) = none → c = s.channel k) ∧
    (∀ g m, s.feedsForward k key g m →
      v = heldTo (s.standSettings k).trimLimit (trimChange m (s.gaugeSettings g).feedForwardGain)) ∧
    ((∀ g m, ¬ s.feedsForward k key g m) → v = 0) ∧
    (let running := c.state = .idle ∨ c.state = .ramping
     (running → c.feedForward ≠ v → u.channel k = s.judged k { c with feedForward := v }) ∧
     (running → c.feedForward = v → u.channel k = c) ∧
     (¬ running → u.channel k = c) ∧
     ∀ j, u.span j =
      if (u.channel k).state = .idle ∨ (u.channel k).state = .ramping then
        (s.span j).map (fun x =>
          if x.key = key then
            { x with stands := upd x.stands k (fun b => { b with target := some (u.channel k).effective }) }
          else x)
      else s.span j)

/-- Group g has latched between s and u with stand k in its struck set. -/
def State.struckAnew (s u : State) (k : Nat) : Prop :=
  ∃ g, g < 16 ∧ (s.group g).latched = false ∧ (u.group g).latched = true ∧ holds (u.group g).struck k = true

/-- Channel c as a strike leaves it (R101); the current plan value it keeps is the model's choice (log 33). -/
def Channel.openedBy (c : Channel) : Channel :=
  if c.state = .recovering ∨ c.state = .idle ∨ c.state = .ramping then
    { c with
      state := .opening, ramp := none, plans := [], release := false, feedback := 0, feedForward := 0, clamp := false
      strikes := bump c.strikes }
  else c

/-- Channel k as an adoption that keeps it present leaves it before any strike, u holding the new tables (R14). -/
def State.channelKept (s u : State) (k : Nat) : Channel :=
  let c := s.channel k
  let t := u.standSettings k
  u.judged k { c with
    feedback := heldTo t.trimLimit c.feedback, feedForward := heldTo t.trimLimit c.feedForward
    ramp := c.ramp.map (fun r =>
      if t.burst = true ∧ r.followingAwaited = true then { r with stepDue := true, followingAwaited := false } else r) }

/-- Channel k as an adoption that brings its stand in leaves it before any strike (R14, R99); its effective target of 0 is
the model's choice (log 37). -/
def State.channelEntered (s u : State) (k : Nat) : Channel :=
  let c := s.channel k
  { Channel.fresh with
    state := .recovering, mode := (u.standSettings k).initialMode, rampsStarted := c.rampsStarted
    rampsCompleted := c.rampsCompleted, stalls := c.stalls, clamps := c.clamps, plansLapsed := c.plansLapsed
    strikes := c.strikes }

/-! ## The configuration region (R5, R11, R174, R175) -/

/-- How many of the station list words 1 to j say STAND. -/
def standsThrough (m : Memory) (j : Nat) : Nat := (upTo j).countP (fun i => cfg m (0x000F + i) == 0x10)

/-- N of the station list: the STAND words among its M entries, of which there is room for 12. -/
def standsListed (m : Memory) : Nat := standsThrough m (min 12 (cfg m 4))

/-- Gauge g is named by a station list word. -/
def gaugeListed (m : Memory) (g : Nat) : Prop := ∃ j, 1 ≤ j ∧ j ≤ 12 ∧ j ≤ cfg m 4 ∧ cfg m (0x000F + j) = 0x20 + g

/-- Word a is a header word that fails its check. -/
def headerWordFails (m : Memory) (a : Nat) : Prop :=
  let v := cfg m a
  (a = 0 ∧ (v < 50 ∨ 1000 < v ∨ v % 10 ≠ 0)) ∨ (a = 1 ∧ (v < 1 ∨ 1000 < v)) ∨ (a = 2 ∧ (v < 1 ∨ 4095 < v)) ∨
    (a = 3 ∧ 1 < v) ∨ (a = 4 ∧ (v < 2 ∨ 12 < v))

/-- Word a is station list word j of the M that are read, and it fails: it is no value of a station list word, entry 1 is no
STAND, the gauge is named already, the STAND is the ninth, or the last entry leaves fewer than 2 STANDs. -/
def stationWordFails (m : Memory) (a : Nat) : Prop :=
  let v := cfg m a
  ∃ j, 1 ≤ j ∧ j ≤ 12 ∧ j ≤ cfg m 4 ∧ a = 0x000F + j ∧
    ((v ≠ 0x10 ∧ (v < 0x21 ∨ 0x24 < v)) ∨ (j = 1 ∧ v ≠ 0x10) ∨
      (v ≠ 0x10 ∧ ∃ i, 1 ≤ i ∧ i < j ∧ cfg m (0x000F + i) = v) ∨ (v = 0x10 ∧ 8 ≤ standsThrough m (j - 1)) ∨
      (j = cfg m 4 ∧ standsThrough m j < 2))

/-- Word a is a setting of a stand 1 to N, and it fails. -/
def standWordFails (m : Memory) (a : Nat) : Prop :=
  let v := cfg m a
  ∃ k, 1 ≤ k ∧ k ≤ standsListed m ∧
    let b := 0x0020 + 8 * (k - 1)
    (a = b ∧ (15 < v ∨ ∃ i, 1 ≤ i ∧ i < k ∧ cfg m (0x0020 + 8 * (i - 1)) = v)) ∨ ((a = b + 1 ∨ a = b + 2) ∧ 1 < v) ∨
      (a = b + 3 ∧ (v < 2 ∨ 64 < v)) ∨ (a = b + 4 ∧ 60000 < v) ∨
      (a = b + 5 ∧ (60000 < v ∨ v ≤ cfg m (b + 4))) ∨ (a = b + 6 ∧ 2000 < v)

/-- Word a is a setting of a named gauge, and it fails. -/
def gaugeWordFails (m : Memory) (a : Nat) : Prop :=
  let v := cfg m a
  ∃ g, 1 ≤ g ∧ g ≤ 4 ∧ gaugeListed m g ∧
    let b := 0x0060 + 8 * (g - 1)
    (a = b ∧ (v < 1 ∨ 4 < v ∨ ∃ i, 1 ≤ i ∧ i < g ∧ gaugeListed m i ∧ cfg m (0x0060 + 8 * (i - 1)) = v)) ∨
      (a = b + 1 ∧ (v < 1 ∨ 100 < v)) ∨ (a = b + 2 ∧ (v < 1 ∨ 60 < v)) ∨ ((a = b + 3 ∨ a = b + 4) ∧ 2000 < v) ∨
      (a = b + 5 ∧ (v < 1 ∨ 255 < v))

/-- Word a is the trip map word of a source, and it fails: a bit outside its fields, or LEVEL for source 60 or 61. -/
def sourceWordFails (m : Memory) (a : Nat) : Prop :=
  let w := Memory.readWord m a
  ∃ x, x < 62 ∧ a = 0x0080 + x ∧
    ((∃ i, 4 ≤ i ∧ i < 32 ∧ i ≠ 8 ∧ i ≠ 16 ∧ w.getLsbD i = true) ∨ (60 ≤ x ∧ w.getLsbD 8 = true))

/-- Word a is the word of a group, and it fails: a bit outside its fields, or a stand above N in its stand set. -/
def groupWordFails (m : Memory) (a : Nat) : Prop :=
  let w := Memory.readWord m a
  ∃ g, g < 16 ∧ a = 0x00C0 + g ∧
    ∃ i, ((standsListed m ≤ i ∧ i < 8) ∨ (10 ≤ i ∧ i < 16) ∨ (18 ≤ i ∧ i < 32)) ∧ w.getLsbD i = true

/-- Word a is point i of a profile, and it fails. -/
def pointWordFails (m : Memory) (a : Nat) : Prop :=
  let v := cfg m a
  ∃ p i, p < 8 ∧ 1 ≤ i ∧ i ≤ 8 ∧ a = 0x00D0 + 8 * p + (i - 1) ∧
    (1000 < v ∨ (1 < i ∧ v < cfg m (a - 1)) ∨ (i = 8 ∧ v ≠ 1000))

/-- Configuration word a is read by an adoption and fails its check. -/
def wordFails (m : Memory) (a : Nat) : Prop :=
  headerWordFails m a ∨ stationWordFails m a ∨ standWordFails m a ∨ gaugeWordFails m a ∨ sourceWordFails m a ∨
    groupWordFails m a ∨ pointWordFails m a

/-- The working tables that the words of a region give. -/
def tablesShow (m : Memory) (t : Tables) : Prop :=
  t.slotLength = cfg m 0 ∧ t.holdTime = cfg m 1 ∧ t.drainAllowance = cfg m 2 ∧ (t.fairness = true ↔ cfg m 3 = 1) ∧
    t.stationCount = cfg m 4 ∧ t.standCount = standsListed m ∧ t.stands.length = standsListed m ∧
    (∀ j, 1 ≤ j → j ≤ t.stationCount →
      (cfg m (0x000F + j) = 0x10 → numL t.stations j = .stand) ∧
        ∀ g, 1 ≤ g → g ≤ 4 → cfg m (0x000F + j) = 0x20 + g → numL t.stations j = .gauge g) ∧
    (∀ k, 1 ≤ k → k ≤ t.standCount →
      let b := 0x0020 + 8 * (k - 1)
      numL t.stands k =
        { priority := cfg m b, burst := decide (cfg m (b + 1) = 1)
          initialMode := if cfg m (b + 2) = 1 then .free else .gated, pollInterval := cfg m (b + 3)
          gapMin := cfg m (b + 4), gapMax := cfg m (b + 5), trimLimit := cfg m (b + 6) }) ∧
    (∀ g, 1 ≤ g → g ≤ 4 → gaugeListed m g →
      let b := 0x0060 + 8 * (g - 1)
      num t.gauges g =
        { link := cfg m b, silenceTime := cfg m (b + 1), standardiseLimit := cfg m (b + 2)
          feedbackGain := cfg m (b + 3), feedForwardGain := cfg m (b + 4), minimumCount := cfg m (b + 5) }) ∧
    (∀ x, x < 62 →
      let w := Memory.readWord m (0x0080 + x)
      num t.tripMap (x + 1) = { group := w.toNat % 16, level := w.getLsbD 8, masked := w.getLsbD 16 }) ∧
    (∀ g, g < 16 →
      let w := Memory.readWord m (0x00C0 + g)
      num t.groups (g + 1) =
        { stands := w.setWidth 8, millWide := w.getLsbD 8, extending := w.getLsbD 9, cls := w.toNat / 65536 % 4 }) ∧
    ∀ p, p < 8 → num t.profiles (p + 1) = (upTo 8).map (fun i => cfg m (0x00D0 + 8 * p + (i - 1)))

/-! ## Plan order (R103) -/

/-- Key a stands before key b in a plan list (R103). -/
def State.standsBefore (s : State) (a b : SegKey) : Prop :=
  a = nowKey ∨
    (b ≠ nowKey ∧
      ((a.coil = b.coil ∧ a.number < b.number) ∨
        (a.coil ≠ b.coil ∧ 1 ≤ (s.seqOf b - s.seqOf a).toNat ∧ (s.seqOf b - s.seqOf a).toNat ≤ 2147483647)))

/-- List l is the list m with e at its place in the order (R103). -/
def State.insertedInto (s : State) (m l : List PlanEntry) (e : PlanEntry) : Prop :=
  ∃ before after, m = before ++ after ∧ l = before ++ e :: after ∧
    (∀ x, x ∈ before → s.standsBefore x.key e.key) ∧
    (∀ x rest, after = x :: rest → ¬ s.standsBefore x.key e.key)

/-! ## The words of report records (R178, R179) -/

/-- The 16-bit half that shows a gap or a force; 0xFFFF where it is absent. -/
def shownHalf (x : Option Nat) : Nat := x.getD 65535

/-- Two values of 16 bits named "a, b": a in bits 15:0 and b in bits 31:16 (R177). -/
def showsPair (w : Word) (a b : Nat) : Prop := w.toNat = a + 65536 * b

/-- The words of a COIL DONE record of coil c. -/
def coilDoneWords (c : Coil) (w : List Word) : Prop :=
  c.segCount < 256 → c.reported < 256 → c.shortened < 256 →
    ∃ h a, w = [h, c.id, a] ∧ h.toNat = 2 + 256 * 3 ∧
      a.toNat = c.segCount + 256 * c.reported + 65536 * c.shortened + 16777216 * (if c.scrapped then 1 else 0)

/-- The segment number of a snapshot entry i (from 1); 0 for none or no entry. -/
def snapNumber (l : List SnapEntry) (i : Nat) : Nat := (((l[i - 1]?).bind SnapEntry.bite).map SegKey.number).getD 0

/-- The words of a TRIP record of group g. -/
def tripWords (g : Nat) (r : Group) (w : List Word) : Prop :=
  g < 16 → (∀ x, r.firstCause = some x → x < 62) → r.snapshot.length ≤ 8 →
    (∀ e, e ∈ r.snapshot → (∀ b, e.bite = some b → b.number < 256) ∧
      ∀ gap force, e.reply = some (gap, force) → gap < 65536 ∧ force < 65536) →
    ∃ h a n1 n2 l, w = [h, a, r.latchTime, n1, n2] ++ l ∧
      h.toNat = 3 + 256 * (5 + 2 * r.snapshot.length) ∧
      a.toNat = g + 256 * r.firstCause.getD 63 + 65536 * r.struck.toNat + 16777216 * r.snapshot.length ∧
      n1.toNat = snapNumber r.snapshot 1 + 256 * snapNumber r.snapshot 2 + 65536 * snapNumber r.snapshot 3 +
        16777216 * snapNumber r.snapshot 4 ∧
      n2.toNat = snapNumber r.snapshot 5 + 256 * snapNumber r.snapshot 6 + 65536 * snapNumber r.snapshot 7 +
        16777216 * snapNumber r.snapshot 8 ∧
      l.length = 2 * r.snapshot.length ∧
      ∀ i e, r.snapshot[i]? = some e →
        l.getD (2 * i) 0#32 = (e.bite.map SegKey.coil).getD 0#32 ∧
          showsPair (l.getD (2 * i + 1) 0#32) (shownHalf (e.reply.map Prod.fst)) (shownHalf (e.reply.map Prod.snd))

/-- The words of an event record. -/
def eventWords (e : EventRecord) (w : List Word) : Prop :=
  match e with
  | .track j kind coil n time => j < 16 → n < 256 →
    ∃ h a, w = [h, coil, a, time] ∧ a.toNat = n ∧
      h.toNat = 4 + 256 * 4 + 65536 * j + 16777216 *
        (match kind with | .headUnexpected => 0 | .overrun => 1 | .earlyTail => 2 | .advanced => 3)
  | .gauge g state time => g < 16 →
    ∃ h, w = [h, time] ∧
      (state = .ready → h.toNat = 5 + 256 * 2 + 65536 * g + 16777216 * 2) ∧
      (state = .fault → h.toNat = 5 + 256 * 2 + 65536 * g + 16777216 * 5) ∧
      (state = .silent → h.toNat = 5 + 256 * 2 + 65536 * g + 16777216 * 6)
  | .stall k lastSent gap time => k < 16 → lastSent < 65536 → gap < 65536 →
    ∃ h a b, w = [h, a, b, time] ∧ h.toNat = 6 + 256 * 4 + 65536 * k ∧ a.toNat = lastSent ∧ b.toNat = gap
  | .clamp k sum limit time => k < 16 → -1000000 ≤ sum → sum ≤ 1000000 → limit < 65536 →
    ∃ h a b, w = [h, a, b, time] ∧ h.toNat = 6 + 256 * 4 + 65536 * k + 16777216 ∧ a.toInt = sum ∧ b.toNat = limit
  | .warning x g time => x < 64 → g < 16 →
    ∃ h, w = [h, time] ∧ h.toNat = 7 + 256 * 2 + 65536 * x + 16777216 * g

/-- The four words of gauge g in a SEGMENT record; the last, where the block has no minimum and maximum, is a free value
(log 25). -/
def gaugeShown (g : Nat) (m : MeasBlock) (w : List Word) : Prop :=
  g < 16 → m.count < 65536 → m.doubtful < 65536 → -327675000 ≤ m.sum → m.sum ≤ 327675000 →
    ∃ a b c d, w = [a, b, c, d] ∧ a.toNat = g + 256 * (if m.range = none then 0 else 1) ∧ showsPair b m.count m.doubtful ∧
      c.toInt = m.sum ∧
      ∀ lo hi, m.range = some (lo, hi) → -5000 ≤ lo → hi ≤ 5000 → lo ≤ hi →
        (d.extractLsb' 0 16).toInt = lo ∧ (d.extractLsb' 16 16).toInt = hi

/-- The two words of stand k in a SEGMENT record; the word of an absent target is the model's reading (log 29). -/
def standShown (k : Nat) (b : StandBlock) (w : List Word) : Prop :=
  k < 16 → (∀ x, b.target = some x ∨ b.gap = some x ∨ b.force = some x → x < 65536) →
    ∃ a c, w = [a, c] ∧ showsPair a (shownHalf b.target) (shownHalf b.gap) ∧
      c.toNat = shownHalf b.force + 65536 * k + 16777216 * (if b.target = none then 0 else 1) +
        33554432 * (if b.gap = none then 0 else 1) + 67108864 * (if b.force = none then 0 else 1)

/-- The words of a SEGMENT record of a segment, with the named gauges l and n stands. -/
def segmentWords (l : List Nat) (n : Nat) (x : Segment) (w : List Word) : Prop :=
  x.key.number < 256 → l.length ≤ 4 → n ≤ 8 →
    ∃ h a gs ks, w = [h, x.key.coil, a] ++ gs ++ ks ∧
      h.toNat = 1 + 256 * (3 + 4 * l.length + 2 * n) ∧
      a.toNat = x.key.number + 256 * (if x.shortened then 1 else 0) + 512 * (if x.tailed then 1 else 0) +
        1024 * (if x.advanced then 1 else 0) + 65536 * l.length + 16777216 * n ∧
      gs.length = 4 * l.length ∧ ks.length = 2 * n ∧
      (∀ i g, l[i]? = some g → gaugeShown g (num x.meas g) ((gs.drop (4 * i)).take 4)) ∧
      (∀ k, 1 ≤ k → k ≤ n → standShown k (num x.stands k) ((ks.drop (2 * (k - 1))).take 2))

/-- The words of a record are those of its format (R178, R179). -/
def State.formatted (s : State) (x : RecordSource) (w : List Word) : Prop :=
  match x with
  | .trip g => tripWords g (s.group g) w
  | .event e => eventWords e w
  | .segment key => ∀ y, s.segment key = some y → segmentWords s.namedGauges s.standCount y w
  | .coilDone id => ∀ c, s.coilById id = some c → coilDoneWords c w

/-! ## What a reply brings (R44, R47, R86) -/

/-- The length delta of an accepted reply of drive k (R86). -/
def State.deltaOf (s : State) (k : Nat) (f : ReplyFrame) : Option Nat :=
  if (s.drive k).baselineValid then some (f.lengthCount - (s.drive k).baseline).toNat else none

/-- The state in which channel k takes an accepted reply of its drive (R87): the slot is decided, the drive record holds the
reply, and the Tracking Unit has taken it with the announcements of its action. -/
def State.replyTracked (s : State) (k : Nat) (f : ReplyFrame) : State :=
  (((s.decideSlot .good).onDrive k Drive.countGood).onDrive k (Drive.accept (LastReply.ofFrame f s.now))).trackReply k
    (s.deltaOf k f) f.loaded

/-- A delta passes no segment at any station that stand k feeds and overruns none. -/
def State.passesNothing (s : State) (k : Nat) (delta : Option Nat) : Prop :=
  ∀ j, j ∈ s.stationsOf k → s.passing j delta = [] ∧ ¬ s.overruns j delta

/-- The stations and the strip of an ARMED mill stand as every step leaves them. -/
def State.trackingSound (s : State) : Prop :=
  s.orders.mill = .armed ∧ s.orders.tables ≠ none ∧ s.spansStand ∧ s.stationsFollow ∧ s.stripSettled

/-- What a length delta leaves of station j (R47 to R50, R62), where no load event changes its form. -/
def State.deltaTaken (s u : State) (j : Nat) (delta : Option Nat) : Prop :=
  (u.station j).form = s.formAfter j delta ∧ (u.station j).closedCoil = (s.station j).closedCoil ∧
    (u.station j).earlyTails = (s.station j).earlyTails ∧ s.passagesCounted u j (s.passing j delta) ∧
    (u.span (j - 1)).map Segment.key = (s.stripAt j delta).2.1.map Segment.key ∧
    (s.overruns j delta → s.mismatchRaised u j) ∧
    (¬ s.overruns j delta → (u.station j).mismatches = (s.station j).mismatches)

/-- Channel k of v holds c, and u differs in it only by a strike of a group that has latched since (R101, R132). -/
def State.channelOrStruck (v u : State) (k : Nat) (c : Channel) : Prop :=
  (¬ v.struckAnew u k → u.channel k = c) ∧ (v.struckAnew u k → u.channel k = c.openedBy)

/-! ## Samples (R26, R73) -/

/-- The measurement block m with a sample of a gauge whose nominal thickness is given (R26, R73). -/
def MeasBlock.taken (m : MeasBlock) (thickness nominal : Nat) (doubtful : Bool) : MeasBlock :=
  let d := heldTo 5000 ((thickness : Int) - nominal)
  if doubtful then { m with doubtful := bump m.doubtful }
  else
    { m with
      count := bump m.count, sum := if m.count < 65535 then m.sum + d else m.sum
      range := match m.range with
        | none => some (d, d)
        | some (lo, hi) => some (min lo d, max hi d) }

end Sys2Proof.Machine
end

