-- ==== Sys2Proof/Certificates/Slice0/Obligations.lean ====
section
/-! DEFINITION. The statements about this machine, for the provers. Every statement holds for every state, whether a run
reaches it or not, under the premises that it names. -/

open Sys2Proof Sys2Proof.Machine

/-! ## The queue of commands -/

/-- A step with a command at the front of the queue runs exactly that command, on the state with the queue's rest. The
queue is the model's own. -/
def Obligations.StepRunsFrontCommand : Prop :=
  ∀ (c : Instr) (s : State) (rest : List Instr), s.pending = c :: rest → step s = exec c (s.setPending rest)

/-! ## Resets (R163, R164) -/

/-- POWER ON RESET clears exchange memory to zero, gives every block its reset values and writes every status record
with update count 1. A request presented of none, a clear grant, an effective target of 0 and no slot in progress are the
model's choice (log 23), and that no first slot waits is the model's own field (log 11). Commands that wait stay waiting
(the model's queue). -/
def Obligations.PowerOnResetClears : Prop :=
  ∀ s : State, ∃ t, exec .powerOnReset s = .next t ∧ t.atReset ∧ (∀ a, Memory.read t.port.mem a = 0#8) ∧
    t.recordsShow ∧ (∀ i, 1 ≤ i → i ≤ 110 → (num t.status i).count = 1#32) ∧ t.pending = s.pending

/-- SOFT RESET and PCIE LINK RESET give every block its reset values, rewrite the headers of POSTED, TAKEN and LENT
pages, keep every other byte of the configuration and page regions, and send no message. A request presented of none, a clear
grant, an effective target of 0 and no slot in progress are the model's choice (log 23), and that no first slot waits is
the model's own field (log 11). The message count is the model's (log 8). -/
def Obligations.SoftAndLinkReset : Prop :=
  ∀ (s : State) (c : Instr), c = .softReset ∨ c = .pcieLinkReset → s.memoryCanonical →
    ∃ t, exec c s = .next t ∧ t.atReset ∧
      (∀ p, p < 768 → s.headerSwept t p) ∧
      (∀ a, (∀ p, p < 768 → a < 4 * headerAddress p ∨ 4 * headerAddress p + 3 < a) →
        Memory.read t.port.mem a = Memory.read s.port.mem a) ∧
      t.recordsShow ∧ (∀ i, 1 ≤ i → i ≤ 110 → (num t.status i).count = 1#32) ∧
      t.port.messagesSent = s.port.messagesSent ∧ t.pending = s.pending

/-! ## The register block (R149, R150, R181) -/

/-- ATTENTION CLEAR clears each attention bit that is written with 1 in an enabled byte, and changes nothing else.
REGISTER WRITE: ATTENTION ENABLE is stored; ATTENTION and SOFT RESET behave as their own commands; a 0 to SOFT RESET
does nothing; every other write is dropped with reason register and its offset. -/
def Obligations.RegisterWrites : Prop :=
  ∀ (s : State) (data : Word) (en : BitVec 4),
    (∃ t, exec (.attentionClear data en) s = .next t ∧
      (∀ a, t.attentionIs a = (s.attentionIs a && !(en.getLsbD 0 && data.getLsbD a.bit))) ∧
      t.port = { s.port with attention := t.port.attention } ∧ s.unitsKept t ∧ t.reports = s.reports) ∧
    (∃ t, exec (.registerWrite 4 data en) s = .next t ∧
      (∀ a : Attention, t.port.enables.getLsbD a.bit =
        if en.getLsbD 0 then data.getLsbD a.bit else s.port.enables.getLsbD a.bit) ∧
      t.port = { s.port with enables := t.port.enables } ∧ s.unitsKept t ∧ t.reports = s.reports) ∧
    exec (.registerWrite 3 data en) s = exec (.attentionClear data en) s ∧
    (en = 1#4 → data.getLsbD 0 = true → exec (.registerWrite 1 data en) s = exec .softReset s) ∧
    (en = 1#4 → data.getLsbD 0 = false → exec (.registerWrite 1 data en) s = .next s) ∧
    (∀ reg : Fin 8, reg = 0 ∨ reg = 2 ∨ reg = 5 ∨ reg = 6 ∨ reg = 7 ∨ (reg = 1 ∧ en &&& 14#4 ≠ 0#4) →
      ∃ t, exec (.registerWrite reg data en) s = .next t ∧
        s.writeDropped t { registerBlock := true, address := 4 * reg, reason := .register })

/-! ## The write filter (R148, R152, R153) -/

/-- A host write inside BAR1 completes and is judged word by word: its first word and then the rest of the request leave
the blocks as the request does. A request past the end of BAR1 is the model's one fault (log 10). A header word of a
host-owned page that carries POSTED is a posting, and one that carries LENT a lending: the host write does what the
command does. -/
def Obligations.HostWriteWordByWord : Prop :=
  ∀ (s : State) (start : BitVec 16) (words : List WordWrite),
    (start.toNat + words.length ≤ 65536 → ∃ t, exec (.hostMemoryWrite start words) s = .next t) ∧
    (65536 < start.toNat + words.length → exec (.hostMemoryWrite start words) s = .fault .outsideExchangeMemory) ∧
    (∀ x rest u t v, words = x :: rest → exec (.hostMemoryWrite start [x]) s = .next u →
      exec (.hostMemoryWrite (start + 1) rest) u = .next t → exec (.hostMemoryWrite start words) s = .next v →
      v.toBlocks = t.toBlocks) ∧
    ∀ (page : Fin 768) (x : WordWrite), partOwned (s.headerOf page) = false →
      (headerState (s.merged (headerAddress page) x) = some .posted →
        exec (.hostMemoryWrite (BitVec.ofNat 16 (headerAddress page)) [x]) s =
          exec (.posting page (s.merged (headerAddress page) x)) s) ∧
      (headerState (s.merged (headerAddress page) x) = some .lent →
        exec (.hostMemoryWrite (BitVec.ofNat 16 (headerAddress page)) [x]) s =
          exec (.lending page (s.merged (headerAddress page) x)) s)

/-- One word of a host write. A word of the configuration region is stored in UNCONFIGURED and READY while no adoption
is in flight, a body word of a host-owned page always, and a header word that carries FREE too. A word that the write
filter drops leaves memory and registers unchanged, counts once, is recorded with its address and reason, and sets
DROPPED. A header word is judged merged with what the header holds (the model's reading, log 24). -/
def Obligations.HostWordStoredOrDropped : Prop :=
  ∀ (s : State) (a : BitVec 16) (x : WordWrite),
    (s.memoryCanonical →
      ((a.toNat < 0x2000 ∧ s.orders.mill ≠ .armed ∧ s.orders.adopting = none) ∨
        (0x4000 ≤ a.toNat ∧ partOwned (s.headerOf ((a.toNat - 0x4000) / 64)) = false ∧
          ((a.toNat - 0x4000) % 64 ≠ 63 ∨ headerState (s.merged a.toNat x) = some .free))) →
      ∃ t, exec (.hostMemoryWrite a [x]) s = .next t ∧ s.wordStored t a.toNat x) ∧
    (∀ why, s.dropsWord a.toNat x why →
      ∃ t, exec (.hostMemoryWrite a [x]) s = .next t ∧
        s.writeDropped t { registerBlock := false, address := a.toNat, reason := why })

/-! ## Hand-overs (R155, R157, R158) -/

/-- POSTING of a host-owned page: with a free place the header stands POSTED and the page joins the back of the intake
queue; with 32 pages queued the header stands REFUSED with INTAKE_FULL, its word count kept, and ORDER is set. The
header operand is the model's reading of the row (log 9). -/
def Obligations.PostingQueuesOrRefuses : Prop :=
  ∀ (s : State) (page : Fin 768) (h : Word), s.memoryCanonical → partOwned (s.headerOf page) = false →
    ∃ t, exec (.posting page h) s = .next t ∧ s.otherBytesKept t (headerAddress page) ∧ s.unitsKept t ∧
      t.reports = s.reports ∧
      (s.port.intake.length < 32 →
        t.headerOf page = withHeaderState .posted h ∧
          t.port = { s.port with
            mem := t.port.mem, intake := s.port.intake ++ [page.val]
            postingsAccepted := bump s.port.postingsAccepted }) ∧
      (32 ≤ s.port.intake.length →
        t.headerOf page = header .refused .intakeFull (headerWordCount h) 0 ∧
          t.port = { s.port with
            mem := t.port.mem, postingsRefused := bump s.port.postingsRefused
            attention := t.port.attention, messagesSent := t.port.messagesSent } ∧
          s.attentionRaised t .order)

/-- LENDING of a host-owned page: with a free place the header stands LENT and the page joins the back of the lent list;
with 64 pages lent the header stands REFUSED with NO_ROOM, its word count kept, and ORDER is set. The header operand is
the model's reading of the row (log 9). -/
def Obligations.LendingListsOrRefuses : Prop :=
  ∀ (s : State) (page : Fin 768) (h : Word), s.memoryCanonical → partOwned (s.headerOf page) = false →
    ∃ t, exec (.lending page h) s = .next t ∧ s.otherBytesKept t (headerAddress page) ∧ s.unitsKept t ∧
      (s.reports.lent.length < 64 →
        t.headerOf page = withHeaderState .lent h ∧
          t.reports = { s.reports with lent := s.reports.lent ++ [page.val] } ∧
          t.port = { s.port with mem := t.port.mem, lendingsAccepted := bump s.port.lendingsAccepted }) ∧
      (64 ≤ s.reports.lent.length →
        t.headerOf page = header .refused .noRoom (headerWordCount h) 0 ∧ t.reports = s.reports ∧
          t.port = { s.port with
            mem := t.port.mem, lendingsRefused := bump s.port.lendingsRefused
            attention := t.port.attention, messagesSent := t.port.messagesSent } ∧
          s.attentionRaised t .order)

/-- PAGE RELEASE of a host-owned page stores the header with state FREE and hands nothing over; a posting, a lending and
a release of a part-owned page are dropped with reason part-owned page. The header operand is the model's reading of the
row (log 9). -/
def Obligations.ReleaseAndPartOwnedPages : Prop :=
  ∀ (s : State) (page : Fin 768) (h : Word),
    (s.memoryCanonical → partOwned (s.headerOf page) = false →
      ∃ t, exec (.pageRelease page h) s = .next t ∧ t.headerOf page = withHeaderState .free h ∧
        s.otherBytesKept t (headerAddress page) ∧ s.unitsKept t ∧ t.reports = s.reports ∧
        t.port = { s.port with mem := t.port.mem }) ∧
    (∀ c : Instr, c = .posting page h ∨ c = .lending page h ∨ c = .pageRelease page h →
      partOwned (s.headerOf page) = true →
      ∃ t, exec c s = .next t ∧
        s.writeDropped t { registerBlock := false, address := headerAddress page, reason := .partOwnedPage })

/-! ## Executing order pages (R159 to R161) -/

/-- TAKE: the front page leaves the intake queue, its header stands TAKEN with item index 0 and result 0 and its word
count kept, and execution stands at body word 0, order index 0; a first order that fails its length or its code ends the
page. That the first order is judged in the step of the TAKE is the model's reading (log 6). -/
def Obligations.TakeBeginsPage : Prop :=
  ∀ (s : State) (p : Nat) (rest : List Nat), s.memoryCanonical → s.orders.taken = none → s.port.intake = p :: rest →
    let first : Taken := { page := p, word := 0, index := 0 }
    ∃ t, exec .take s = .next t ∧ t.port.intake = rest ∧ s.otherBytesKept t (headerAddress p) ∧
      s.unitsKept { t with orders := { t.orders with taken := s.orders.taken } } ∧ t.reports = s.reports ∧
      (s.badLength first = false → s.badOrder first = false →
        t.headerOf p = header .taken .ok (s.pageWordCount p) 0 ∧ t.orders.taken = some first ∧
          t.port = { s.port with mem := t.port.mem, intake := rest }) ∧
      (s.badLength first = true → s.pageEnded t p .badLength 0 ∧ s.attentionRaised t .order) ∧
      (s.badLength first = false → s.badOrder first = true →
        s.pageEnded t p .badOrder 0 ∧ s.attentionRaised t .order)

/-- The first two checks of every order: an order that the mill state does not allow completes with WRONG_STATE, and an
allowed one with another argument count than its own with OUT_OF_RANGE; nothing else changes. The order that follows is
judged in the completing step (the model's reading, log 6). -/
def Obligations.OrderFirstChecks : Prop :=
  ∀ (s : State) (t : Taken) (code : Nat) (args : List Word) (c : Instr), s.memoryCanonical →
    orderCommand code = some c → s.atOrder t code args →
    (orderAllowed code s.orders.mill = false → ∃ u, exec c s = .next u ∧ s.onlyAnswered u t .wrongState) ∧
    (orderAllowed code s.orders.mill = true → args.length ≠ argumentCount code s.standCount →
      ∃ u, exec c s = .next u ∧ s.onlyAnswered u t .outOfRange)

/-! ## Adoption (R8 to R17) -/

/-- ADOPT TABLES in UNCONFIGURED or READY with no argument sets ADOPTING and changes nothing else. ADOPTION COMPLETION
of a region with a bad word: the page is FAILED with INVALID_TABLE and the first bad word's address, the refused counter
rises, the address is kept, ADOPTING clears, and nothing else changes. The first bad word is the lowest word that an
adoption reads and that fails its check, and there is none exactly when every word it reads passes. -/
def Obligations.AdoptionBeginsAndIsRefused : Prop :=
  (∀ m : Memory,
    (∀ a, firstBadWord m = some a ↔ wordFails m a ∧ ∀ b, b < a → ¬ wordFails m b) ∧
      (firstBadWord m = none ↔ ∀ a, ¬ wordFails m a)) ∧
  (∀ (s : State) (t : Taken), s.atOrder t 0x01 [] → s.orders.mill ≠ .armed →
    ∃ u, exec .adoptTables s = .next u ∧ u.orders = { s.orders with adopting := some s.clock.millTime } ∧
      u.port = s.port ∧ s.blocksKept u) ∧
  ∀ (s : State) (later : Bool) (t : Taken) (b : Word) (bad : Nat), s.memoryCanonical → s.orders.adopting = some b →
    s.orders.taken = some t → firstBadWord s.port.mem = some bad →
    ∃ u, exec (.adoptionCompletion later) s = .next u ∧ s.pageEnded u t.page .invalidTable bad ∧
      s.otherBytesKept u (headerAddress t.page) ∧ s.attentionRaised u .order ∧ s.blocksKept u ∧
      u.orders = { s.orders with
        adopting := none, taken := none, adoptionsRefused := bump s.orders.adoptionsRefused, badWord := bad }

/-- ADOPTION COMPLETION of a valid region: tables, each field from its word of the region (R174), mill state, counters and
marker (R13), the channels of the new layout (R14), stations, spans, gauges, drives and the stand bus (R15), and the
order's answer. A channel that stays present keeps everything but its clamped trims, its effective target with the
clamp flag, and its pacing; one that the resample strikes opens from there. From UNCONFIGURED the first slot begins
with the adopted slot length: in the completion, before the header write, or later, with no request presented yet and
its beginning left to a SLOT TIMER EXPIRY (the operand is the model's, log 11). The order that follows is judged in
the completing step (the model's reading, log 6). What a removed drive shows as presented and granted, the presence of
a gauge that is not named, what else a removed or a struck channel keeps, that a channel whose wait set the adoption
empties still waits, and the effective target of a channel that leaves ABSENT are the model's choices (logs 31, 32,
33, 36, 37). -/
def Obligations.AdoptionInstalls : Prop :=
  ∀ (s : State) (later : Bool) (t : Taken) (b : Word), s.memoryCanonical → s.orders.adopting = some b →
    s.orders.taken = some t → firstBadWord s.port.mem = none → s.orders.mill ≠ .armed →
    let tables := readTables s.port.mem
    let n := tables.standCount
    let ready := s.orders.mill = .ready
    ∃ u, exec (.adoptionCompletion later) s = .next u ∧ s.orderAnswered u t .ok ∧ s.outsideKept u ∧
      tablesShow s.port.mem tables ∧
      u.orders = { s.orders with
        tables := some tables, mill := .ready, adopting := none, firstAdoption := false, taken := u.orders.taken
        adoptionsCompleted := bump s.orders.adoptionsCompleted } ∧
      (∀ k, 1 ≤ k → k ≤ 8 →
        let struck := s.struckAnew u k
        (n < k →
          u.channel k = { s.channel k with
            state := .absent, plans := [], ramp := none, feedback := 0, feedForward := 0, release := false
            clamp := false } ∧
          u.drive k = Drive.fresh ∧ u.asserted (47 + k) = false ∧ u.bus.owner ≠ some k ∧ num u.bus.waits k = none) ∧
        (k ≤ n → (s.channel k).state = .absent →
          (struck → u.channel k = (s.channelEntered u k).openedBy) ∧
            (¬ struck → u.channel k = s.channelEntered u k) ∧
            (ready → u.drive k = { s.drive k with sinceGrant := 64 })) ∧
        (k ≤ n → (s.channel k).state ≠ .absent → ready →
          (struck → u.channel k = (s.channelKept u k).openedBy) ∧
            (¬ struck → u.channel k = s.channelKept u k) ∧
            ((s.channelKept u k).clamps ≠ (s.channel k).clamps → u.attentionIs .warning = true) ∧
            u.drive k = s.drive k ∧
            (s.bus.owner = some k →
              (u.bus.owner = some k ↔
                (numL tables.stands k).burst = true ∧
                  ¬ (struck ∧ (s.channel k).state ≠ .opening ∧ (s.channel k).state ≠ .opened)))) ∧
        (k ≤ n → ready →
          ((num u.bus.waits k).isSome = true ↔ tables.fairness = true ∧ (num s.bus.waits k).isSome = true) ∧
            ∀ m m', num s.bus.waits k = some m → num u.bus.waits k = some m' →
              ∀ i, 1 ≤ i → i ≤ 8 → (holds m' i = true ↔ holds m i = true ∧ i ≤ n))) ∧
      (ready →
        u.bus = { s.bus with owner := u.bus.owner, waits := u.bus.waits, drives := u.bus.drives } ∧
          (u.bus.owner = s.bus.owner ∨ u.bus.owner = none)) ∧
      (¬ ready → later = true →
        u.bus.slotTimer = some s.clock.millTime ∧ u.bus.firstLength = some tables.slotLength ∧ u.bus.slot = s.bus.slot) ∧
      (¬ ready → later = false →
        u.bus.slotTimer = some (s.clock.millTime + BitVec.ofNat 32 tables.slotLength) ∧ u.bus.firstLength = none) ∧
      (¬ ready → (∀ k, 1 ≤ k → k ≤ 8 → (s.channel k).state = .absent) → s.bus.owner = none →
        (∀ k, 1 ≤ k → k ≤ 8 → num s.bus.waits k = none) →
        (∀ k, 1 ≤ k → k ≤ 8 → num u.bus.waits k = none) ∧
          u.bus = { s.bus with
            slotTimer := u.bus.slotTimer, firstLength := u.bus.firstLength, slot := u.bus.slot, waits := u.bus.waits
            drives := u.bus.drives } ∧
          (later = true → ∀ k, 1 ≤ k → k ≤ n → u.drive k = { s.drive k with sinceGrant := 64 }) ∧
          (later = false →
            let opens (k : Nat) : Prop := 1 ≤ k ∧ k ≤ n ∧ s.struckAnew u k
            let asks (k : Nat) : Prop := 1 ≤ k ∧ k ≤ n ∧ ((∃ i, opens i) → opens k)
            ∃ w, u.lowest asks (some w) ∧
              (s.struckAnew u w → u.bus.slot = some { request := some (w, .opening w), decided := none }) ∧
              (¬ s.struckAnew u w → u.bus.slot = some { request := some (w, .poll w), decided := none }) ∧
              (∀ k, 1 ≤ k → k ≤ n →
                u.drive k = { s.drive k with
                  presented := (u.drive k).presented, granted := decide (k = w)
                  sinceGrant := if k = w then 0 else 64
                  sent := if k = w then bump (s.drive k).sent else (s.drive k).sent } ∧
                (s.struckAnew u k → (u.drive k).presented = .opening) ∧
                (¬ s.struckAnew u k → (u.drive k).presented = .poll)))) ∧
      u.tracking.stations = (upTo tables.stationCount).map (Station.fresh tables) ∧
      u.tracking.spans = List.replicate (tables.stationCount + 1) [] ∧ u.tracking.exits = [] ∧
      u.tracking.coils = s.tracking.coils ∧ u.tracking.counter = s.tracking.counter ∧
      (∀ g, 1 ≤ g → g ≤ 4 →
        u.asserted (55 + g) = false ∧
        (∀ j, tables.stationOfGauge g = some j →
          u.gauge g = { s.gauge g with
            state := .waiting, link := some (num tables.gauges g).link, station := some j, standardise := none
            debounce := 0, present := false
            silence := some (s.clock.millTime + BitVec.ofNat 32 ((num tables.gauges g).silenceTime * 1000)) }) ∧
        (tables.stationOfGauge g = none →
          u.gauge g = { s.gauge g with
            state := .absent, link := none, station := none, silence := none, standardise := none
            debounce := if (s.gauge g).state = .ready then 0 else (s.gauge g).debounce }))

/-- The groups at a successful completion. A group that was clear takes its new configuration and is latched after it
exactly when a level source that is asserted and unmasked is mapped to it under the new map; the lowest such source is
the first cause and all of them are the cause set. A group that was latched keeps its latch, causes, latch time, owed
flag and configuration, and its struck set and snapshot less the stands above the new N. What a latched group keeps
follows the model's reading (log 28). -/
def Obligations.GroupsAtAdoption : Prop :=
  ∀ (s u : State) (later : Bool) (b : Word) (g : Nat), s.orders.adopting = some b → s.orders.taken ≠ none →
    firstBadWord s.port.mem = none → exec (.adoptionCompletion later) s = .next u → g < 16 →
    let tables := readTables s.port.mem
    let n := tables.standCount
    let causes (x : Nat) : Prop :=
      x < 60 ∧ u.asserted x = true ∧ (num tables.tripMap (x + 1)).masked = false ∧ (num tables.tripMap (x + 1)).group = g
    ((s.group g).latched = false →
      (u.group g).config = num tables.groups (g + 1) ∧
      ((u.group g).latched = true ↔ ∃ x, causes x) ∧
      (∀ x, causes x → (∀ y, causes y → x ≤ y) → (u.group g).firstCause = some x) ∧
      ((u.group g).latched = true →
        (∀ x, x < 62 → ((u.group g).causes.getLsbD x = true ↔ causes x)) ∧ (u.group g).owed = true ∧
          (u.group g).latchTime = s.clock.millTime ∧ u.attentionIs .trip = true)) ∧
    ((s.group g).latched = true →
      u.group g = { s.group g with struck := (u.group g).struck, snapshot := (u.group g).snapshot } ∧
      (∀ k, 1 ≤ k → k ≤ 8 → (holds (u.group g).struck k = true ↔ holds (s.group g).struck k = true ∧ k ≤ n)) ∧
      (u.group g).snapshot = (s.group g).snapshot.filter (fun e => decide (e.stand ≤ n)))

/-! ## Mill state and slot length (R19, R20, R81) -/

/-- ARM MILL in READY makes the mill ARMED and sets every station by its loaded flag: DRAINING untracked when loaded and
not transparent, EMPTY otherwise. DISARM MILL in ARMED: with a coil in the table it completes with COILS_PRESENT;
otherwise the mill becomes READY and every station EMPTY. Both reset closed coils and last passed and keep the loaded
flags. The order that follows is judged in the completing step (the model's reading, log 6). -/
def Obligations.ArmAndDisarm : Prop :=
  ∀ (s : State) (t : Taken), s.memoryCanonical →
    let changes (c : Instr) (m : MillState) (form : Station → StationForm) : Prop :=
      ∃ u, exec c s = .next u ∧ s.orderAnswered u t .ok ∧ s.quiet u ∧ s.outsideKept u ∧
        u.orders = { s.orders with mill := m, taken := u.orders.taken } ∧
        u.tracking = { s.tracking with
          stations := s.tracking.stations.map (fun x => { x with form := form x, closedCoil := none, lastPassed := 0 }) } ∧
        u.gauges = s.gauges ∧ u.bus = s.bus ∧ u.channels = s.channels ∧ s.protectionKept u ∧ u.reports = s.reports
    (s.atOrder t 0x02 [] → s.orders.mill = .ready →
      changes .armMill .armed (fun x => if x.loaded = true ∧ x.transparent = false then .untracked else .empty)) ∧
    (s.atOrder t 0x03 [] → s.orders.mill = .armed →
      ((∃ i, 1 ≤ i ∧ i ≤ 8 ∧ num s.tracking.coils i ≠ none) →
        ∃ u, exec .disarmMill s = .next u ∧ s.onlyAnswered u t .coilsPresent) ∧
      ((∀ i, 1 ≤ i → i ≤ 8 → num s.tracking.coils i = none) → changes .disarmMill .ready (fun _ => .empty)))

/-- SET SLOT LENGTH: in UNCONFIGURED it completes with WRONG_STATE, with another argument count than 1 with
OUT_OF_RANGE, and with a length that is not 50 to 1,000 or no multiple of 10 with OUT_OF_RANGE; otherwise the length
replaces the working slot length and nothing else changes: the slot in progress keeps its length, and the stand bus
record shows the new one. The order that follows is judged in the completing step (the model's reading, log 6). -/
def Obligations.SetSlotLength : Prop :=
  ∀ (s : State) (t : Taken) (args : List Word), s.memoryCanonical → s.atOrder t 0x04 args →
    (s.orders.mill = .unconfigured → ∃ u, exec .setSlotLength s = .next u ∧ s.onlyAnswered u t .wrongState) ∧
    (s.orders.mill ≠ .unconfigured → args.length ≠ 1 →
      ∃ u, exec .setSlotLength s = .next u ∧ s.onlyAnswered u t .outOfRange) ∧
    (∀ x, s.orders.mill ≠ .unconfigured → args = [x] → x.toNat < 50 ∨ 1000 < x.toNat ∨ x.toNat % 10 ≠ 0 →
      ∃ u, exec .setSlotLength s = .next u ∧ s.onlyAnswered u t .outOfRange) ∧
    (∀ x tables, s.orders.mill ≠ .unconfigured → args = [x] → s.orders.tables = some tables →
      50 ≤ x.toNat → x.toNat ≤ 1000 → x.toNat % 10 = 0 →
      ∃ u, exec .setSlotLength s = .next u ∧ s.orderAnswered u t .ok ∧ s.quiet u ∧ s.blocksKept u ∧ u.recordsShow ∧
        u.orders = { s.orders with
          tables := some { tables with slotLength := x.toNat }, taken := u.orders.taken })

/-! ## Coils (R27, R29, R31) -/

/-- ANNOUNCE COIL in ARMED with 2 + 2N arguments: the first of the checks 3 to 9 of R27 that fails gives the result,
with the tracking state unchanged but for the count of NO_ROOM refusals; when all pass, the coil stands in the lowest
free place with its lists and the counter's value, and its segments at the back of span 0. The order that follows is
judged in the completing step (the model's reading, log 6). -/
def Obligations.AnnounceCoil : Prop :=
  ∀ (s : State) (t : Taken) (args : List Word), s.memoryCanonical → s.atOrder t 0x10 args → s.orders.mill = .armed →
    args.length = 2 + 2 * s.standCount → s.tracking.spans ≠ [] →
    let n := s.standCount
    let id := numL args 1
    let count := (numL args 2).toNat
    let length (k : Nat) := (numL args (2 + k)).toNat
    let thickness (k : Nat) := (numL args (2 + n + k)).toNat
    let valid :=
      id ≠ 0#32 ∧ 1 ≤ count ∧ count ≤ 250 ∧
        (∀ k, 1 ≤ k → k ≤ n → 16 ≤ length k ∧ length k ≤ 16383 ∧ (k < n → length k ≤ length (k + 1))) ∧
        (∀ k, 1 ≤ k → k ≤ n →
          500 ≤ thickness k ∧ thickness k ≤ 30000 ∧ (k < n → thickness (k + 1) ≤ thickness k)) ∧
        ∀ i c, 1 ≤ i → i ≤ 8 → num s.tracking.coils i = some c → c.id ≠ id
    let tableFull := ∀ i, 1 ≤ i → i ≤ 8 → num s.tracking.coils i ≠ none
    let poolFull := 512 < (s.tracking.spans.map List.length).sum + count
    (¬ valid → ∃ u, exec .announceCoil s = .next u ∧ s.onlyAnswered u t .outOfRange) ∧
    (valid → tableFull ∨ poolFull →
      ∃ u, exec .announceCoil s = .next u ∧ s.orderAnswered u t .noRoom ∧ s.quiet u ∧ s.outsideKept u ∧ s.ordersKept u ∧
        u.tracking = { s.tracking with refusedNoRoom := bump s.tracking.refusedNoRoom } ∧ u.channels = s.channels) ∧
    (valid → ¬ tableFull → ¬ poolFull →
      ∃ u p, exec .announceCoil s = .next u ∧ s.orderAnswered u t .ok ∧ s.quiet u ∧ s.outsideKept u ∧ s.ordersKept u ∧
        1 ≤ p ∧ p ≤ 8 ∧ num s.tracking.coils p = none ∧ (∀ q, 1 ≤ q → q < p → num s.tracking.coils q ≠ none) ∧
        num u.tracking.coils p = some
          { id := id, seq := s.tracking.counter, segCount := count, lengths := (upTo n).map length
            thicknesses := (upTo n).map thickness, state := .announced, shortenedSeen := false, scrapped := false
            inSpans := count, reported := 0, shortened := 0 } ∧
        (∀ q, q ≠ p → num u.tracking.coils q = num s.tracking.coils q) ∧
        u.span 0 = s.span 0 ++ (upTo count).map (Segment.fresh id) ∧ (∀ j, 1 ≤ j → u.span j = s.span j) ∧
        u.tracking.counter = nextSequence s.tracking.counter ∧
        u.tracking = { s.tracking with
          coils := u.tracking.coils, counter := u.tracking.counter, spans := u.tracking.spans
          accepted := bump s.tracking.accepted } ∧
        u.gauges = s.gauges ∧ u.bus = s.bus ∧ u.channels = s.channels ∧ s.protectionKept u ∧ u.reports = s.reports)

/-- WITHDRAW COIL in ARMED: a coil that is not in the table gives UNKNOWN_COIL and one that has entered the mill
COIL_ENTERED; otherwise its segments leave the spans, its plans leave every list, and its place is free. The order that
follows is judged in the completing step (the model's reading, log 6). The release flag clears only where an entry left
(the model's reading, log 14). -/
def Obligations.WithdrawCoil : Prop :=
  ∀ (s : State) (t : Taken) (id : Word), s.memoryCanonical → s.atOrder t 0x11 [id] → s.orders.mill = .armed →
    (s.coilById id = none → ∃ u, exec .withdrawCoil s = .next u ∧ s.onlyAnswered u t .unknownCoil) ∧
    (∀ c, s.coilById id = some c → c.state ≠ .announced →
      ∃ u, exec .withdrawCoil s = .next u ∧ s.onlyAnswered u t .coilEntered) ∧
    (∀ c, s.coilById id = some c → c.state = .announced →
      ∃ u, exec .withdrawCoil s = .next u ∧ s.orderAnswered u t .ok ∧ s.quiet u ∧ s.outsideKept u ∧ s.ordersKept u ∧
        (∀ i, 1 ≤ i → i ≤ 8 → num u.tracking.coils i =
          if (num s.tracking.coils i).map Coil.id = some id then none else num s.tracking.coils i) ∧
        (∀ j, u.span j = (s.span j).filter (fun x => x.key.coil != id)) ∧
        u.tracking = { s.tracking with coils := u.tracking.coils, spans := u.tracking.spans } ∧
        (∀ k, 1 ≤ k → k ≤ 8 →
          if (s.channel k).plans.any (fun e => e.key.coil == id) then
            (s.channel k).plansLeft (u.channel k) ((s.channel k).plans.filter (fun e => e.key.coil != id))
          else u.channel k = s.channel k) ∧
        u.gauges = s.gauges ∧ u.bus = s.bus ∧ s.protectionKept u ∧ u.reports = s.reports)

/-- SCRAP COIL in ARMED: a coil that is not in the table gives UNKNOWN_COIL; an ENDED coil gives OK and nothing changes;
otherwise no segment, plan, bite, await or closed coil names the coil any more, the stations that held it are DRAINING
untracked when loaded and EMPTY otherwise, the coil is ENDED and SCRAPPED, and its COIL DONE item stands in the exit
list. The order that follows is judged in the completing step (the model's reading, log 6). -/
def Obligations.ScrapCoil : Prop :=
  ∀ (s : State) (t : Taken) (id : Word), s.memoryCanonical → s.atOrder t 0x12 [id] → s.orders.mill = .armed →
    (s.coilById id = none → ∃ u, exec .scrapCoil s = .next u ∧ s.onlyAnswered u t .unknownCoil) ∧
    (∀ c, s.coilById id = some c → c.state = .ended → ∃ u, exec .scrapCoil s = .next u ∧ s.onlyAnswered u t .ok) ∧
    (∀ c, s.coilById id = some c → c.state ≠ .ended →
      ∃ u, exec .scrapCoil s = .next u ∧ s.orderAnswered u t .ok ∧ s.outsideKept u ∧ s.ordersKept u ∧
        u.coilById id = some { c with state := .ended, scrapped := true, inSpans := 0 } ∧
        (∀ x, x ∈ u.tracking.spans.flatten → x.key.coil ≠ id) ∧
        (∀ k e, 1 ≤ k → k ≤ 8 → e ∈ (u.channel k).plans → e.key.coil ≠ id) ∧
        (∃ l, u.tracking.exits = s.tracking.exits.filter (fun i => !ExitItem.ofCoil id i) ++ [.coilDone id] ++ l) ∧
        (∀ x, x ∈ u.tracking.stations →
          x.closedCoil ≠ some id ∧ x.form ≠ .awaiting id ∧ ∀ b, x.bite = some b → b.coil ≠ id) ∧
        (∀ j, (∃ b, (s.station j).bite = some b ∧ b.coil = id) ∨ (s.station j).form = .awaiting id →
          (u.station j).form = if (s.station j).loaded then .untracked else .empty) ∧
        u.gauges = s.gauges ∧ u.bus = s.bus ∧ s.protectionKept u)

/-! ## Stations and gauges (R56, R74, R75) -/

/-- ADVANCE STATION in ARMED: a number outside 1 to M gives OUT_OF_RANGE and a station that is not THREADED WRONG_STATE;
otherwise the bite passes (passages, last passed), the station goes on with accumulator 0 as R49 gives, and a TRACK
EVENT of kind advanced joins the holding queue. The bite leaves the front of the span before the station with its
ADVANCED flag set, and with the SHORTENED segments behind it joins the back of the station's own span, unless the next
station's front rule moves them on. The order that follows is judged in the completing step (the model's reading,
log 6). The record joins the queue before what the passage announces (the model's reading, log 13). -/
def Obligations.AdvanceStation : Prop :=
  ∀ (s : State) (t : Taken) (x : Word), s.memoryCanonical → s.atOrder t 0x13 [x] → s.orders.mill = .armed →
    let j := x.toNat
    (j < 1 ∨ s.stationCount < j → ∃ u, exec .advanceStation s = .next u ∧ s.onlyAnswered u t .outOfRange) ∧
    (1 ≤ j → j ≤ s.stationCount → (s.station j).bite = none →
      ∃ u, exec .advanceStation s = .next u ∧ s.onlyAnswered u t .wrongState) ∧
    (∀ key, 1 ≤ j → j ≤ s.stationCount → (s.station j).bite = some key →
      ∃ u, exec .advanceStation s = .next u ∧ s.orderAnswered u t .ok ∧ s.outsideKept u ∧ s.ordersKept u ∧
        (u.station j).passages = bump (s.station j).passages ∧ (u.station j).lastPassed = key.number ∧
        (u.station j).loaded = (s.station j).loaded ∧ (u.station j).mismatches = (s.station j).mismatches ∧
        ((∃ b, (u.station j).form = .threaded b 0 ∧ b.coil = key.coil) ∨
          (u.station j).form = .tailDrain key.coil true 0 ∨ (u.station j).form = .awaiting key.coil) ∧
        (s.reports.queue.length < 16 →
          ∃ l, u.reports.queue =
            s.reports.queue ++ [.track j .advanced key.coil key.number s.clock.millTime] ++ l) ∧
        u.gauges = s.gauges ∧ u.bus = s.bus ∧ s.protectionKept u ∧
        (s.orders.tables ≠ none → s.spansStand → s.stripSettled → (s.station j).transparent = false →
          (∃ i y, j ≤ i ∧ y ∈ u.span i ∧ y.key = key ∧ y.advanced = true ∧
            ∀ r, (s.station j).kind = .stand → 1 ≤ (s.station j).feeding → (s.station j).feeding ≤ 8 →
              (s.drive (s.station j).feeding).last = some r →
              (num y.stands (s.station j).feeding).gap = some r.gap ∧
                (num y.stands (s.station j).feeding).force = some r.force) ∧
          (∃ b, (s.span (j - 1)).map Segment.key = key :: b ++ (u.span (j - 1)).map Segment.key ∧
            ((s.span j = [] → j < s.stationCount →
                (s.station (j + 1)).transparent = false ∧ (s.station (j + 1)).closedCoil ≠ some key.coil) →
              (u.span j).map Segment.key = (s.span j).map Segment.key ++ key :: b ∧
                (j = s.stationCount → u.tracking.exits = s.tracking.exits ++ (key :: b).map ExitItem.segment)))))

/-- OMIT GAUGE in READY or ARMED: a gauge that is not named gives OUT_OF_RANGE; an OMITTED one OK with nothing changed;
otherwise the gauge is OMITTED with its timers stopped, its source clear, its station transparent and EMPTY, and the
span before it empty. The order that follows is judged in the completing step (the model's reading, log 6). -/
def Obligations.OmitGauge : Prop :=
  ∀ (s : State) (t : Taken) (x : Word), s.memoryCanonical → s.atOrder t 0x18 [x] → s.orders.mill ≠ .unconfigured →
    s.orders.tables ≠ none → s.spansStand →
    let g := x.toNat
    (g ∉ s.namedGauges → ∃ u, exec .omitGauge s = .next u ∧ s.onlyAnswered u t .outOfRange) ∧
    (g ∈ s.namedGauges → (s.gauge g).state = .omitted → ∃ u, exec .omitGauge s = .next u ∧ s.onlyAnswered u t .ok) ∧
    (g ∈ s.namedGauges → (s.gauge g).state ≠ .omitted → (s.gauge g).state ≠ .absent →
      ∃ u j, exec .omitGauge s = .next u ∧ s.orderAnswered u t .ok ∧ s.outsideKept u ∧ s.ordersKept u ∧
        (s.gauge g).station = some j ∧
        u.gauge g = { s.gauge g with state := .omitted, silence := none, standardise := none, debounce := 0 } ∧
        (∀ i, i ≠ g → u.gauge i = s.gauge i) ∧
        u.station j = { s.station j with form := .empty, closedCoil := none, transparent := true } ∧
        u.span (j - 1) = [] ∧
        u.asserted (55 + g) = false ∧ (∀ y, y < 62 → y ≠ 55 + g → u.asserted y = s.asserted y) ∧
        u.protection.groups = s.protection.groups ∧ u.bus = s.bus)

/-- RESTORE GAUGE in READY or ARMED: a gauge that is not named gives OUT_OF_RANGE and one that is not OMITTED
WRONG_STATE; otherwise the gauge is WAITING with its silence timer started, and its station is no longer transparent:
DRAINING untracked in ARMED, EMPTY in READY. The order that follows is judged in the completing step (the model's
reading, log 6). -/
def Obligations.RestoreGauge : Prop :=
  ∀ (s : State) (t : Taken) (x : Word), s.memoryCanonical → s.atOrder t 0x19 [x] → s.orders.mill ≠ .unconfigured →
    s.orders.tables ≠ none → s.spansStand →
    let g := x.toNat
    (g ∉ s.namedGauges → ∃ u, exec .restoreGauge s = .next u ∧ s.onlyAnswered u t .outOfRange) ∧
    (g ∈ s.namedGauges → (s.gauge g).state ≠ .omitted →
      ∃ u, exec .restoreGauge s = .next u ∧ s.onlyAnswered u t .wrongState) ∧
    (g ∈ s.namedGauges → (s.gauge g).state = .omitted →
      ∃ u j, exec .restoreGauge s = .next u ∧ s.orderAnswered u t .ok ∧ s.quiet u ∧ s.outsideKept u ∧ s.ordersKept u ∧
        (s.gauge g).station = some j ∧
        u.gauge g = { s.gauge g with
          state := .waiting, debounce := 0
          silence := some (s.clock.millTime + BitVec.ofNat 32 ((s.gaugeSettings g).silenceTime * 1000)) } ∧
        (∀ i, i ≠ g → u.gauge i = s.gauge i) ∧
        u.station j = { s.station j with
          form := if s.orders.mill = .armed then .untracked else .empty, closedCoil := none, transparent := false } ∧
        (∀ i, i ≠ j → u.station i = s.station i) ∧
        u.tracking = { s.tracking with stations := u.tracking.stations } ∧
        u.bus = s.bus ∧ u.channels = s.channels ∧ s.protectionKept u ∧ u.reports = s.reports)

/-! ## Plans, release and mode (R104 to R112) -/

/-- PLAN GAP with six arguments in READY or ARMED: the checks 3 to 10 of R104 in order; the first that fails gives the
result and nothing changes. The order that follows is judged in the completing step (the model's reading, log 6). -/
def Obligations.PlanGapChecks : Prop :=
  ∀ (s : State) (t : Taken) (a1 a2 a3 a4 a5 a6 : Word), s.memoryCanonical →
    s.atOrder t 0x20 [a1, a2, a3, a4, a5, a6] → s.orders.mill ≠ .unconfigured →
    let k := a1.toNat
    let stand := 1 ≤ k ∧ k ≤ s.standCount
    let running := (s.channel k).state = .idle ∨ (s.channel k).state = .ramping
    let target := (s.standSettings k).gapMin ≤ a4.toNat ∧ a4.toNat ≤ (s.standSettings k).gapMax
    let steps :=
      (a5.toNat ≤ 7 ∧ (a6.toNat = 8 ∨ a6.toNat = 16 ∨ a6.toNat = 32 ∨ a6.toNat = 64)) ∨
        (a5.toNat = 8 ∧ 1 ≤ a6.toNat ∧ a6.toNat ≤ 64) ∨ (a5.toNat = 9 ∧ a6.toNat = 1)
    let now := a2 = 0#32 ∧ a3 = 0#32
    let tied := a2 ≠ 0#32 ∧ a3 ≠ 0#32
    let answers (r : ResultCode) := ∃ u, exec .planGap s = .next u ∧ s.onlyAnswered u t r
    (¬ stand → answers .outOfRange) ∧
    (stand → ¬ running → answers .wrongState) ∧
    (stand → running → ¬ target → answers .outOfRange) ∧
    (stand → running → target → ¬ steps → answers .outOfRange) ∧
    (stand → running → target → steps → ¬ now → ¬ tied → answers .outOfRange) ∧
    (stand → running → target → steps → tied → s.orders.mill ≠ .armed → answers .wrongState) ∧
    (stand → running → target → steps → tied → s.orders.mill = .armed → s.coilById a2 = none →
      answers .unknownCoil) ∧
    (∀ c, stand → running → target → steps → tied → s.orders.mill = .armed → s.coilById a2 = some c →
      c.segCount < a3.toNat → answers .outOfRange)

/-- PLAN GAP that passes its checks: a plan for now, and one for the bite of the stand, starts its ramp in FREE mode or
with the release flag set, and otherwise becomes the one DUE entry, in the place of the DUE entry it replaces or else at
its own, or finds no room; a plan that comes too late is LATE; any other replaces the WAITING entry of its key, is
inserted at its place in announcement order and segment number, or finds no room in a list of 16. The order that follows
is judged in the completing step (the model's reading, log 6). When a plan becomes DUE another entry of its key
leaves the list (the model's reading, log 26). -/
def Obligations.PlanGapPlaces : Prop :=
  ∀ (s : State) (t : Taken) (args : List Word), s.memoryCanonical → s.atOrder t 0x20 args →
    firstFailure (planChecks args s) = .ok →
    let k := (numL args 1).toNat
    let e := planEntry args
    let c := s.channel k
    let segment := s.segment e.key
    let late := s.coilState e.key.coil = some .ended ∨ segment = none ∨ (∃ x, segment = some x ∧ x.shortened = true) ∨
      ∃ j, s.spanIndex e.key = some j ∧ s.stationOfStand k ≤ j
    let atOnce := e.key = nowKey ∨ (¬ late ∧ s.biteOfStand k = some e.key)
    let starts := c.mode = .free ∨ c.release = true
    let stored := e.key ≠ nowKey ∧ ¬ late ∧ s.biteOfStand k ≠ some e.key
    let waiting := ∃ x, x ∈ c.plans ∧ x.key = e.key ∧ x.due = false
    let room := c.plans.length < 16
    let due := ∃ x, x ∈ c.plans ∧ x.due = true
    let others (l : List PlanEntry) : List PlanEntry := l.filter (fun x => !x.due && x.key != e.key)
    let answers (r : ResultCode) := ∃ u, exec .planGap s = .next u ∧ s.onlyAnswered u t r
    let changes (p : Channel → Prop) :=
      ∃ u, exec .planGap s = .next u ∧ s.orderAnswered u t .ok ∧ s.quiet u ∧ s.onlyChannel u k ∧ p (u.channel k)
    let listed (p : List PlanEntry → Prop) := changes (fun d => d = { c with plans := d.plans } ∧ p d.plans)
    (atOnce → starts → changes (fun d => c.rampStarts d e)) ∧
    (atOnce → ¬ starts → ¬ due → ¬ room → answers .noRoom) ∧
    (atOnce → ¬ starts → due ∨ room →
      listed (fun l => ∀ x, x ∈ l ↔
        x = { e with due := true } ∨ (x ∈ c.plans ∧ x.due = false ∧ x.key ≠ e.key))) ∧
    (∀ before x after, atOnce → ¬ starts → c.plans = before ++ x :: after → (∀ y, y ∈ before → y.due = false) →
      x.due = true → listed (fun l => l = others before ++ { e with due := true } :: others after)) ∧
    (atOnce → ¬ starts → ¬ due → room →
      listed (fun l => s.insertedInto (others c.plans) l { e with due := true })) ∧
    (e.key ≠ nowKey → late → answers .late) ∧
    (stored → waiting →
      listed (fun l => l = c.plans.map (fun x => if x.key = e.key ∧ x.due = false then e else x))) ∧
    (stored → ¬ waiting → room → listed (fun l => s.insertedInto c.plans l e)) ∧
    (stored → ¬ waiting → ¬ room → answers .noRoom)

/-- CANCEL PLANS in READY or ARMED: a number that is no stand gives OUT_OF_RANGE and an unknown coil UNKNOWN_COIL;
otherwise every entry, or every entry that names the coil, leaves the list, the ramp goes on, and the release flag
clears in GATED mode when the list is empty. The order that follows is judged in the completing step (the model's
reading, log 6). That the flag clears although no entry left is the model's reading (log 14). -/
def Obligations.CancelPlans : Prop :=
  ∀ (s : State) (t : Taken) (x id : Word), s.memoryCanonical → s.atOrder t 0x21 [x, id] → s.orders.mill ≠ .unconfigured →
    let k := x.toNat
    (k < 1 ∨ s.standCount < k → ∃ u, exec .cancelPlans s = .next u ∧ s.onlyAnswered u t .outOfRange) ∧
    (1 ≤ k → k ≤ s.standCount → id ≠ 0#32 → s.coilById id = none →
      ∃ u, exec .cancelPlans s = .next u ∧ s.onlyAnswered u t .unknownCoil) ∧
    (1 ≤ k → k ≤ s.standCount → k ≤ 8 → id = 0#32 ∨ s.coilById id ≠ none →
      ∃ u, exec .cancelPlans s = .next u ∧ s.orderAnswered u t .ok ∧ s.quiet u ∧ s.onlyChannel u k ∧
        (s.channel k).plansLeft (u.channel k)
          (if id = 0#32 then [] else (s.channel k).plans.filter (fun e => e.key.coil != id)))

/-- SET RELEASE in READY or ARMED: a number that is no stand gives OUT_OF_RANGE and a channel that is not running
WRONG_STATE; otherwise the flag is set, and in GATED mode a DUE entry's ramp starts. The order that follows is judged in
the completing step (the model's reading, log 6). -/
def Obligations.SetRelease : Prop :=
  ∀ (s : State) (t : Taken) (x : Word), s.memoryCanonical → s.atOrder t 0x22 [x] → s.orders.mill ≠ .unconfigured →
    let k := x.toNat
    let c := s.channel k
    let running := c.state = .idle ∨ c.state = .ramping
    let due := c.plans.find? (fun e => e.due)
    let changes (p : Channel → Prop) :=
      ∃ u, exec .setRelease s = .next u ∧ s.orderAnswered u t .ok ∧ s.quiet u ∧ s.onlyChannel u k ∧ p (u.channel k)
    (k < 1 ∨ s.standCount < k → ∃ u, exec .setRelease s = .next u ∧ s.onlyAnswered u t .outOfRange) ∧
    (1 ≤ k → k ≤ s.standCount → ¬ running → ∃ u, exec .setRelease s = .next u ∧ s.onlyAnswered u t .wrongState) ∧
    (1 ≤ k → k ≤ s.standCount → running → c.mode = .free ∨ due = none → changes (fun d => d = { c with release := true })) ∧
    (∀ e, 1 ≤ k → k ≤ s.standCount → running → c.mode = .gated → due = some e →
      changes (fun d => Channel.rampStarts { c with release := true } d e))

/-- SET CHANNEL MODE in READY or ARMED: a number that is no stand or no mode gives OUT_OF_RANGE; the channel's own mode
changes nothing; another mode clears the release flag, and to FREE a DUE entry's ramp starts. The order that follows is
judged in the completing step (the model's reading, log 6). -/
def Obligations.SetChannelMode : Prop :=
  ∀ (s : State) (t : Taken) (x y : Word), s.memoryCanonical → s.atOrder t 0x23 [x, y] → s.orders.mill ≠ .unconfigured →
    let k := x.toNat
    let c := s.channel k
    let due := c.plans.find? (fun e => e.due)
    let changes (p : Channel → Prop) :=
      ∃ u, exec .setChannelMode s = .next u ∧ s.orderAnswered u t .ok ∧ s.quiet u ∧ s.onlyChannel u k ∧ p (u.channel k)
    (k < 1 ∨ s.standCount < k ∨ 1 < y.toNat →
      ∃ u, exec .setChannelMode s = .next u ∧ s.onlyAnswered u t .outOfRange) ∧
    (1 ≤ k → k ≤ s.standCount → k ≤ 8 → y = 0#32 →
      (c.mode = .gated → changes (fun d => d = c)) ∧
      (c.mode = .free → changes (fun d => d = { c with mode := .gated, release := false }))) ∧
    (1 ≤ k → k ≤ s.standCount → k ≤ 8 → y = 1#32 →
      (c.mode = .free → changes (fun d => d = c)) ∧
      (c.mode = .gated → due = none → changes (fun d => d = { c with mode := .free, release := false })) ∧
      (∀ e, c.mode = .gated → due = some e →
        changes (fun d => Channel.rampStarts { c with mode := .free, release := false } d e)))

/-! ## Trims and profiles (R117, R121) -/

/-- RESET TRIM in READY or ARMED: a number that is no stand gives OUT_OF_RANGE; otherwise the feedback trim is 0, and a
running channel whose trim was another has its effective target and clamp flag judged anew; a clamp that begins is
counted, hands over its record and sets WARNING. The order that follows is judged in the completing step (the model's
reading, log 6). -/
def Obligations.ResetTrim : Prop :=
  ∀ (s : State) (t : Taken) (x : Word), s.memoryCanonical → s.atOrder t 0x24 [x] → s.orders.mill ≠ .unconfigured →
    let k := x.toNat
    let c := s.channel k
    let running := c.state = .idle ∨ c.state = .ramping
    let sum : Int := (c.planValue : Int) + c.feedForward
    let lo : Int := (s.standSettings k).gapMin
    let hi : Int := (s.standSettings k).gapMax
    let beyond := sum < lo ∨ hi < sum
    let begins := beyond ∧ c.clamp = false
    (k < 1 ∨ s.standCount < k → ∃ u, exec .resetTrim s = .next u ∧ s.onlyAnswered u t .outOfRange) ∧
    (1 ≤ k → k ≤ s.standCount → k ≤ 8 →
      (c.feedback = 0 → ∃ u, exec .resetTrim s = .next u ∧ s.onlyAnswered u t .ok) ∧
      (c.feedback ≠ 0 → ¬ running →
        ∃ u, exec .resetTrim s = .next u ∧ s.orderAnswered u t .ok ∧ s.quiet u ∧ s.onlyChannel u k ∧
          u.channel k = { c with feedback := 0 }) ∧
      (c.feedback ≠ 0 → running →
        ∃ u, exec .resetTrim s = .next u ∧ s.orderAnswered u t .ok ∧ s.outsideKept u ∧ s.ordersKept u ∧
          u.tracking = s.tracking ∧ u.gauges = s.gauges ∧ u.bus = s.bus ∧ s.otherChannelsKept u k ∧ s.protectionKept u ∧
          u.channel k = { c with
            feedback := 0, effective := (s.targetOf k { c with feedback := 0 }).toNat, clamp := (u.channel k).clamp
            clamps := (u.channel k).clamps } ∧
          ((u.channel k).clamp = true ↔ beyond) ∧
          (begins →
            (u.channel k).clamps = bump c.clamps ∧ u.attentionIs .warning = true ∧
              s.recordQueued u
                (.clamp k sum (if sum < lo then (s.standSettings k).gapMin else (s.standSettings k).gapMax)
                  s.clock.millTime)) ∧
          (¬ begins → (u.channel k).clamps = c.clamps ∧ u.reports = s.reports ∧ s.quiet u)))

/-- DEFINE PROFILE in READY or ARMED with nine arguments: a code above 7 or points out of range give OUT_OF_RANGE; a
profile that a plan entry or a ramp carries gives IN_USE; otherwise the eight points replace the working profile. The
order that follows is judged in the completing step (the model's reading, log 6). -/
def Obligations.DefineProfile : Prop :=
  ∀ (s : State) (t : Taken) (x : Word) (points : List Word) (tables : Tables), s.memoryCanonical →
    s.atOrder t 0x25 (x :: points) → points.length = 8 → s.orders.mill ≠ .unconfigured → s.orders.tables = some tables →
    let p := x.toNat
    let valid := (∀ i, 1 ≤ i → i ≤ 8 → (numL points i).toNat ≤ 1000) ∧
      (∀ i, 1 ≤ i → i < 8 → (numL points i).toNat ≤ (numL points (i + 1)).toNat) ∧ numL points 8 = 1000#32
    let used := ∃ k, 1 ≤ k ∧ k ≤ 8 ∧
      ((∃ e, e ∈ (s.channel k).plans ∧ e.profile = p) ∨ ∃ r, (s.channel k).ramp = some r ∧ r.profile = p)
    (7 < p ∨ ¬ valid → ∃ u, exec .defineProfile s = .next u ∧ s.onlyAnswered u t .outOfRange) ∧
    (p ≤ 7 → valid → used → ∃ u, exec .defineProfile s = .next u ∧ s.onlyAnswered u t .inUse) ∧
    (p ≤ 7 → valid → ¬ used →
      ∃ u tables', exec .defineProfile s = .next u ∧ s.orderAnswered u t .ok ∧ s.quiet u ∧ s.blocksKept u ∧
        u.orders = { s.orders with tables := some tables', taken := u.orders.taken } ∧
        tables' = { tables with profiles := tables'.profiles } ∧
        ∀ q, q < 8 → num tables'.profiles (q + 1) =
          if q = p then points.map BitVec.toNat else num tables.profiles (q + 1))

/-! ## Groups and sources (R133, R139 to R144) -/

/-- The struck set of a latch is the base together with the stands whose bite is of a base stand's strip coil. -/
def Obligations.StruckSet : Prop :=
  ∀ (s : State) (c : GroupConfig) (k : Nat), 1 ≤ k → k ≤ 8 → (holds (s.struckSet c) k = true ↔ s.mustStrike c k)

/-- CLEAR GROUP: the checks in order; a clear group gives OK and an owed one REPORT_OWED, with nothing changed; a
latched group that is not owed is cleared and resampled, its stands are unstruck, MILL RUN follows the latched groups,
and the result is REASSERTED exactly when the group has latched again. The order that follows is judged in the
completing step (the model's reading, log 6). -/
def Obligations.ClearGroup : Prop :=
  ∀ (s : State) (t : Taken) (args : List Word), s.memoryCanonical → s.atOrder t 0x30 args →
    (s.orders.mill = .unconfigured → ∃ u, exec .clearGroup s = .next u ∧ s.onlyAnswered u t .wrongState) ∧
    (s.orders.mill ≠ .unconfigured → args.length ≠ 1 →
      ∃ u, exec .clearGroup s = .next u ∧ s.onlyAnswered u t .outOfRange) ∧
    ∀ x : Word, s.orders.mill ≠ .unconfigured → args = [x] →
      let g := x.toNat
      (15 < g → ∃ u, exec .clearGroup s = .next u ∧ s.onlyAnswered u t .outOfRange) ∧
      (g ≤ 15 → (s.group g).latched = false → ∃ u, exec .clearGroup s = .next u ∧ s.onlyAnswered u t .ok) ∧
      (g ≤ 15 → (s.group g).latched = true → (s.group g).owed = true →
        ∃ u, exec .clearGroup s = .next u ∧ s.onlyAnswered u t .reportOwed) ∧
      (g ≤ 15 → (s.group g).latched = true → (s.group g).owed = false →
        ∃ u, exec .clearGroup s = .next u ∧
          ((∃ y, s.resamples g y) → s.orderAnswered u t .reasserted) ∧
          ((∀ y, ¬ s.resamples g y) → s.orderAnswered u t .ok ∧ s.quiet u) ∧
          s.groupCleared u g ∧ s.otherGroupsKept u g ∧ s.unstruck u (fun k => holds (s.group g).struck k = true) ∧
          (u.protection.millRun = true ↔
            ∀ i, i < 16 → (u.group i).latched = true → (u.group i).config.millWide = false) ∧
          s.outsideKept u ∧ s.ordersKept u ∧ u.protection.sources = s.protection.sources ∧ u.tracking = s.tracking ∧
          u.gauges = s.gauges ∧ u.reports = s.reports ∧ u.bus = { s.bus with owner := u.bus.owner })

/-- CLEAR CLASS: the checks in order; when they pass every group latched with the class and not owed is cleared and
resampled, the others stay, the released stands are unstruck once, and the result is REPORT_OWED when a group was
skipped, else REASSERTED when one latched again, else OK. The order that follows is judged in the completing step (the
model's reading, log 6). -/
def Obligations.ClearClass : Prop :=
  ∀ (s : State) (t : Taken) (args : List Word), s.memoryCanonical → s.atOrder t 0x31 args →
    (s.orders.mill = .unconfigured → ∃ u, exec .clearClass s = .next u ∧ s.onlyAnswered u t .wrongState) ∧
    (s.orders.mill ≠ .unconfigured → args.length ≠ 1 →
      ∃ u, exec .clearClass s = .next u ∧ s.onlyAnswered u t .outOfRange) ∧
    ∀ x : Word, s.orders.mill ≠ .unconfigured → args = [x] →
      let ofClass (g : Nat) : Prop := g < 16 ∧ (s.group g).latched = true ∧ (s.group g).config.cls = x.toNat
      let cleared (g : Nat) : Prop := ofClass g ∧ (s.group g).owed = false
      let skipped : Prop := ∃ g, ofClass g ∧ (s.group g).owed = true
      let relatched : Prop := ∃ g y, cleared g ∧ s.resamples g y
      (3 < x.toNat → ∃ u, exec .clearClass s = .next u ∧ s.onlyAnswered u t .outOfRange) ∧
      (x.toNat ≤ 3 →
        ∃ u, exec .clearClass s = .next u ∧
          (skipped → s.orderAnswered u t .reportOwed) ∧
          (¬ skipped → relatched → s.orderAnswered u t .reasserted) ∧
          (¬ skipped → ¬ relatched → s.orderAnswered u t .ok) ∧
          (¬ relatched → s.quiet u) ∧
          (∀ g, g < 16 → (cleared g → s.groupCleared u g) ∧ (¬ cleared g → u.group g = s.group g)) ∧
          s.unstruck u (fun k => ∃ g, cleared g ∧ holds (s.group g).struck k = true) ∧
          (u.protection.millRun = true ↔
            ∀ i, i < 16 → (u.group i).latched = true → (u.group i).config.millWide = false) ∧
          s.outsideKept u ∧ s.ordersKept u ∧ u.protection.sources = s.protection.sources ∧ u.tracking = s.tracking ∧
          u.gauges = s.gauges ∧ u.reports = s.reports ∧ u.bus = { s.bus with owner := u.bus.owner })

/-- FORCE TRIP: in UNCONFIGURED it completes with WRONG_STATE, and with an argument with OUT_OF_RANGE; otherwise it
completes with OK and source 61 is judged as one assertion and is as it was again. The order that follows is judged in
the completing step (the model's reading, log 6). -/
def Obligations.ForceTrip : Prop :=
  ∀ (s : State) (t : Taken) (args : List Word), s.memoryCanonical → s.atOrder t 0x32 args →
    (s.orders.mill = .unconfigured → ∃ u, exec .forceTrip s = .next u ∧ s.onlyAnswered u t .wrongState) ∧
    (s.orders.mill ≠ .unconfigured → args ≠ [] → ∃ u, exec .forceTrip s = .next u ∧ s.onlyAnswered u t .outOfRange) ∧
    (s.orders.mill ≠ .unconfigured → args = [] →
      ∃ u, exec .forceTrip s = .next u ∧ s.orderAnswered u t .ok ∧ s.assertionJudged u 61 ∧
        s.outsideKept u ∧ s.ordersKept u ∧ u.protection.sources = s.protection.sources ∧ u.tracking = s.tracking ∧
        u.gauges = s.gauges ∧ u.bus = { s.bus with owner := u.bus.owner })

/-- MASK SOURCE and UNMASK SOURCE in READY or ARMED: a number above 61 gives OUT_OF_RANGE; otherwise the source's masked
flag is set, or cleared, in the working trip map alone. A mask changes nothing else; an unmask of an asserted LEVEL
source acts as an assertion into its group, and of any other source changes nothing else. The order that follows is
judged in the completing step (the model's reading, log 6). -/
def Obligations.MaskAndUnmask : Prop :=
  ∀ (s : State) (t : Taken) (x : Word) (tables : Tables), s.memoryCanonical → s.orders.mill ≠ .unconfigured →
    s.orders.tables = some tables →
    let y := x.toNat
    let flagged (u : State) (b : Bool) : Prop := ∃ tables',
      u.orders = { s.orders with tables := some tables', taken := u.orders.taken } ∧
      tables' = { tables with tripMap := tables'.tripMap } ∧
      ∀ z, z < 62 → num tables'.tripMap (z + 1) =
        if z = y then { num tables.tripMap (z + 1) with masked := b } else num tables.tripMap (z + 1)
    let asserts := s.asserted y = true ∧ (s.mapEntry y).level = true
    (s.atOrder t 0x33 [x] →
      (61 < y → ∃ u, exec .maskSource s = .next u ∧ s.onlyAnswered u t .outOfRange) ∧
      (y ≤ 61 →
        ∃ u, exec .maskSource s = .next u ∧ s.orderAnswered u t .ok ∧ s.quiet u ∧ s.blocksKept u ∧ flagged u true)) ∧
    (s.atOrder t 0x34 [x] →
      (61 < y → ∃ u, exec .unmaskSource s = .next u ∧ s.onlyAnswered u t .outOfRange) ∧
      (y ≤ 61 → ¬ asserts →
        ∃ u, exec .unmaskSource s = .next u ∧ s.orderAnswered u t .ok ∧ s.quiet u ∧ s.blocksKept u ∧ flagged u false) ∧
      (y ≤ 61 → asserts →
        ∃ u, exec .unmaskSource s = .next u ∧ s.orderAnswered u t .ok ∧ flagged u false ∧
          s.assertedInto u y (s.mapEntry y).group ∧ s.outsideKept u ∧ u.protection.sources = s.protection.sources ∧
          u.tracking = s.tracking ∧ u.gauges = s.gauges ∧ u.bus = { s.bus with owner := u.bus.owner }))

/-! ## Report pages (R166 to R171) -/

/-- FLUSH REPORTS in every mill state: an argument gives OUT_OF_RANGE; with no current page, or none of its records
written, OK and nothing changes; otherwise the current page, which is another page than the one being executed, is
returned at once. The order that follows is judged in the completing step (the model's reading, log 6). -/
def Obligations.FlushReports : Prop :=
  ∀ (s : State) (t : Taken) (args : List Word), s.memoryCanonical → s.atOrder t 0x40 args →
    (args ≠ [] → ∃ u, exec .flushReports s = .next u ∧ s.onlyAnswered u t .outOfRange) ∧
    (args = [] → s.reports.recordCount = 0 ∨ s.reports.lent = [] →
      ∃ u, exec .flushReports s = .next u ∧ s.onlyAnswered u t .ok) ∧
    (∀ p rest, args = [] → s.reports.recordCount ≠ 0 → s.reports.lent = p :: rest → p ≠ t.page →
      ∃ u, exec .flushReports s = .next u ∧ s.orderResult u t .ok ∧ s.pageReturned u p rest ∧
        (∀ w, w ≠ headerAddress p → w ≠ headerAddress t.page →
          Memory.readWord u.port.mem w = Memory.readWord s.port.mem w) ∧
        s.outsideKept u ∧ s.ordersKept u ∧ u.tracking = s.tracking ∧ u.gauges = s.gauges ∧ u.bus = s.bus ∧
        u.channels = s.channels ∧ s.protectionKept u)

/-- HOLD TIMER EXPIRY of a running hold timer returns the current page at the instant it was armed for; of a stopped one
it changes nothing (log 2). -/
def Obligations.HoldTimerReturnsPage : Prop :=
  ∀ s : State, s.memoryCanonical →
    (s.reports.hold = none → exec .holdTimerExpiry s = .next s) ∧
    (∀ e p rest, s.reports.hold = some e → s.reports.lent = p :: rest →
      ∃ u, exec .holdTimerExpiry s = .next u ∧ u.clock.millTime = timeAt e s.clock.millTime ∧ s.pageReturned u p rest ∧
        s.otherBytesKept u (headerAddress p) ∧ s.attentionRaised u .report ∧ s.portKept u ∧
        u.port.pagesDone = s.port.pagesDone ∧ u.port.pagesFailed = s.port.pagesFailed ∧
        u.orders = s.orders ∧ u.tracking = s.tracking ∧ u.gauges = s.gauges ∧ u.gaugeLinks = s.gaugeLinks ∧
        u.bus = s.bus ∧ u.channels = s.channels ∧ u.protection.links = s.protection.links ∧ s.protectionKept u)

/-- RECORD WRITE: the record is of the lowest owed group, else the oldest of the holding queue, else the front item of the
exit list. One that fits is stored from body word (word count) up, counted, and given up by its source, a COIL DONE
record with its id as any station's closed coil; after a TRIP record or at word 63 the page is returned. One that does
not fit finds the page returned, and goes into the next page of the list if there is one. The words are those that the
formats of R178 and R179 give the record's content. Where a gauge has no minimum and maximum its word is a free value
(log 25), and an absent target is written as an absent gap is (the model's reading, log 29). -/
def Obligations.RecordWrite : Prop :=
  ∀ (s : State) (p : Nat) (rest : List Nat) (x : RecordSource), s.memoryCanonical → s.reports.lent = p :: rest →
    s.nextRecord = some x →
    let w := s.recordWords x
    s.formatted x w ∧
    (∀ g, g < 16 → (s.group g).owed = true → (∀ i, i < g → (s.group i).owed = false) → x = .trip g) ∧
    ((∀ g, g < 16 → (s.group g).owed = false) →
      (∀ e l, s.reports.queue = e :: l → x = .event e) ∧
      (∀ key l, s.reports.queue = [] → s.tracking.exits = .segment key :: l → x = .segment key) ∧
      (∀ c l, s.reports.queue = [] → s.tracking.exits = .coilDone c :: l → x = .coilDone c)) ∧
    (s.reports.wordCount + w.length ≤ 63 →
      ∃ u, exec .recordWrite s = .next u ∧ s.givenUp u x ∧
        (∀ i, i < w.length → Memory.readWord u.port.mem (bodyAddress p (s.reports.wordCount + i)) = w.getD i 0#32) ∧
        (∀ v, v ≠ headerAddress p → v < bodyAddress p s.reports.wordCount ∨ bodyAddress p (s.reports.wordCount + w.length) ≤ v →
          Memory.readWord u.port.mem v = Memory.readWord s.port.mem v) ∧
        u.reports.written = bump s.reports.written ∧ s.portKept u ∧ u.clock = s.clock ∧ u.orders = s.orders ∧
        u.gauges = s.gauges ∧ u.bus = s.bus ∧
        (if x.isTrip = true ∨ s.reports.wordCount + w.length = 63 then
          u.headerOf p = header .filled .ok (s.reports.wordCount + w.length) (s.reports.recordCount + 1) ∧
            u.reports.lent = rest ∧ u.reports.wordCount = 0 ∧ u.reports.recordCount = 0 ∧ u.reports.hold = none ∧
            u.reports.returned = bump s.reports.returned ∧ s.attentionRaised u .report
        else
          u.headerOf p = s.headerOf p ∧ u.reports.lent = s.reports.lent ∧
            u.reports.wordCount = s.reports.wordCount + w.length ∧
            u.reports.recordCount = s.reports.recordCount + 1 ∧ u.reports.returned = s.reports.returned ∧
            s.attentionKept u ∧
            u.reports.hold =
              if s.reports.recordCount = 0 then some (s.clock.millTime + BitVec.ofNat 32 s.holdTime) else s.reports.hold)) ∧
    (63 < s.reports.wordCount + w.length → rest = [] →
      ∃ u, exec .recordWrite s = .next u ∧ s.pageReturned u p [] ∧ s.otherBytesKept u (headerAddress p) ∧
        s.attentionRaised u .report ∧ u.orders = s.orders ∧ u.tracking = s.tracking ∧ u.channels = s.channels ∧
        s.protectionKept u) ∧
    (∀ q l, 63 < s.reports.wordCount + w.length → w.length ≤ 63 → rest = q :: l → p ≠ q →
      ∃ u, exec .recordWrite s = .next u ∧ s.givenUp u x ∧
        u.headerOf p = header .filled .ok s.reports.wordCount s.reports.recordCount ∧
        (∀ i, i < w.length → Memory.readWord u.port.mem (bodyAddress q i) = w.getD i 0#32) ∧
        u.attentionIs .report = true ∧ u.orders = s.orders ∧ u.gauges = s.gauges ∧ u.bus = s.bus ∧
        (if x.isTrip = true ∨ w.length = 63 then
          u.headerOf q = header .filled .ok w.length 1 ∧ u.reports.lent = l ∧ u.reports.recordCount = 0
        else
          u.headerOf q = s.headerOf q ∧ u.reports.lent = rest ∧ u.reports.wordCount = w.length ∧
            u.reports.recordCount = 1 ∧
            u.reports.hold = some (s.clock.millTime + BitVec.ofNat 32 s.holdTime)))

/-! ## The stand bus (R80 to R97) -/

/-- The arbiter: the first case of R92 that applies gives the winner and the owner, and the wait sets follow R94. -/
def Obligations.ArbiterDecides : Prop :=
  ∀ s : State,
    let d := s.arbitrate
    let opens (k : Nat) := s.requests k ∧ s.request k = .opening
    let others (o : Nat) := ∃ i, s.requests i ∧ i ≠ o
    let preempted (o : Nat) := (∀ k, ¬ opens k) ∧ s.bus.owner = some o ∧ others o
    ((∃ k, opens k) → s.lowest opens d.winner ∧ d.owner = s.bus.owner) ∧
    (∀ o, (∀ k, ¬ opens k) → s.bus.owner = some o → ¬ others o →
      d.owner = some o ∧ s.lowest s.requests d.winner) ∧
    (∀ o, preempted o →
      d.owner = none ∧
        s.lowest (fun k => s.requests k ∧ ¬ (if k = o ∧ s.fairness = true then True else s.stillWaits k)) d.winner) ∧
    ((∀ k, ¬ opens k) → s.bus.owner = none →
      d.owner = none ∧ s.lowest (fun k => s.requests k ∧ ¬ s.stillWaits k) d.winner) ∧
    (∀ i k, 1 ≤ i → i ≤ 8 → 1 ≤ k → k ≤ 8 →
      ((∃ m, num d.waits i = some m ∧ holds m k = true) ↔
        s.requests k ∧ d.winner ≠ some k ∧
          ((preempted i ∧ s.fairness = true ∧ k ≠ i) ∨
            (¬ (preempted i ∧ s.fairness = true) ∧ ∃ m, num s.bus.waits i = some m ∧ holds m k = true)))) ∧
    (∀ i m, num d.waits i = some m → ∃ k, 1 ≤ k ∧ k ≤ 8 ∧ holds m k = true)

/-- SLOT TIMER EXPIRY that ends a slot with a good reply or without a request: the next slot begins at that instant with
the arbiter's decision; every drive record takes what was presented and granted; the winner's frame is sent and counted,
a slot without one is an empty slot; a frame still in reception is counted as late. Of a stopped slot timer it changes
nothing. The slot's length is the working slot length, and of a first slot that waits to begin the adopted one (the
model's field, log 11). The expiry's instant and the stopped timer are the model's reading (log 2). -/
def Obligations.SlotBegins : Prop :=
  ∀ (s : State) (late : Bool),
    (s.bus.slotTimer = none → exec (.slotTimerExpiry late) s = .next s) ∧
    (∀ e, s.bus.slotTimer = some e → s.missedDrive = none →
      let d := s.arbitrate
      ∃ u, exec (.slotTimerExpiry late) s = .next u ∧
        u.clock.millTime = timeAt e s.clock.millTime ∧
        u.bus.slotTimer =
          some (e + BitVec.ofNat 32 (s.bus.firstLength.getD ((s.orders.tables.map Tables.slotLength).getD 0))) ∧
        u.bus.firstLength = none ∧
        u.bus.waits = d.waits ∧
        u.bus.strays = (if late = true ∧ s.bus.slot ≠ none then bump s.bus.strays else s.bus.strays) ∧
        u.bus.badFrames = s.bus.badFrames ∧ u.bus.wrongAddress = s.bus.wrongAddress ∧
        (∀ k, 1 ≤ k → k ≤ 8 → u.drive k = { s.drive k with
          presented := s.request k, granted := decide (d.winner = some k)
          sinceGrant :=
            if d.winner = some k then 0
            else if (s.channel k).state = .absent then (s.drive k).sinceGrant
            else min ((s.drive k).sinceGrant + 1) 64
          sent := if d.winner = some k then bump (s.drive k).sent else (s.drive k).sent }) ∧
        (d.winner = none →
          u.bus.slot = some { request := none, decided := none } ∧ u.bus.emptySlots = bump s.bus.emptySlots ∧
            u.bus.owner = d.owner ∧ u.channels = s.channels ∧ u.reports = s.reports ∧ u.port = s.port) ∧
        (∀ k, d.winner = some k →
          u.bus.emptySlots = s.bus.emptySlots ∧ s.otherChannelsKept u k ∧
            (s.request k = .opening →
              u.bus.slot = some { request := some (k, .opening k), decided := none } ∧ u.bus.owner = d.owner ∧
                u.channels = s.channels ∧ u.reports = s.reports ∧ u.port = s.port) ∧
            (s.request k = .poll →
              u.bus.slot = some { request := some (k, .poll k), decided := none } ∧ u.bus.owner = d.owner ∧
                u.channels = s.channels ∧ u.reports = s.reports ∧ u.port = s.port) ∧
            (s.request k = .step →
              u.bus.slot = some { request := some (k, .setpoint k (u.channel k).effective), decided := none } ∧
                (u.channel k).lastSent = (u.channel k).effective)) ∧
        s.hostSideKept u ∧ u.tracking = s.tracking ∧ u.gauges = s.gauges ∧ u.gaugeLinks = s.gaugeLinks ∧
        u.protection.links = s.protection.links ∧ s.protectionKept u ∧ u.unstated = s.unstated)

/-- Every SETPOINT frame that a slot sends is addressed to its slot's drive and carries a value within the stand's gap
limits, when the limits are in order. -/
def Obligations.SetpointWithinLimits : Prop :=
  ∀ (s u : State) (late : Bool) (e : Word) (k a v : Nat), s.bus.slotTimer = some e →
    exec (.slotTimerExpiry late) s = .next u → u.bus.slot = some { request := some (k, .setpoint a v), decided := none } →
    (s.standSettings k).gapMin ≤ (s.standSettings k).gapMax →
    a = k ∧ (s.standSettings k).gapMin ≤ v ∧ v ≤ (s.standSettings k).gapMax

/-- A channel that wins a slot with a ramp step sends it: one more step sent, the plan value of that step, the effective
target as the value sent, the pacing of its kind, and in FREE mode no release left; with the last step the ramp ends,
the channel is IDLE and ownership is over. A STEP won while IDLE sends the effective target as it stands. The expiry's
instant is the model's reading (log 2). -/
def Obligations.StepSent : Prop :=
  ∀ (s : State) (late : Bool) (e : Word) (k : Nat), s.bus.slotTimer = some e → s.missedDrive = none →
    s.arbitrate.winner = some k → s.request k = .step →
    let c := s.channel k
    let release := if c.mode = .free then false else c.release
    (∀ r, c.state = .ramping → c.ramp = some r →
      let c' := { c with planValue := (s.stepValue r (r.sent + 1)).toNat }
      let target := (s.targetOf k c').toNat
      let burst := (s.standSettings k).burst
      ∃ u, exec (.slotTimerExpiry late) s = .next u ∧
        (r.sent + 1 ≠ r.steps →
          u.channel k = { c' with
            effective := target, lastSent := target, release := release
            ramp := some { r with sent := r.sent + 1, stepDue := burst, followingAwaited := !burst }
            clamp := (u.channel k).clamp, clamps := (u.channel k).clamps } ∧
          u.bus.owner = if burst then some k else s.arbitrate.owner) ∧
        (r.sent + 1 = r.steps →
          u.channel k = { c' with
            effective := target, lastSent := target, release := release, ramp := none, state := .idle
            planTarget := r.final, rampsCompleted := bump c.rampsCompleted
            clamp := (u.channel k).clamp, clamps := (u.channel k).clamps } ∧
          u.bus.owner ≠ some k)) ∧
    (c.state = .idle → c.ramp = none →
      let target := (s.targetOf k c).toNat
      ∃ u, exec (.slotTimerExpiry late) s = .next u ∧
        u.channel k = { c with
          effective := target, lastSent := target, release := release
          clamp := (u.channel k).clamp, clamps := (u.channel k).clamps } ∧
        u.bus.owner = s.arbitrate.owner)

/-- A slot that carried a request to a stand of the layout and ends undecided or with a missed reply: the drive's missed
count rises to 3 at most and its good count becomes 0; the third in a row makes the drive LOST with its baseline invalid
and its source asserted. The missed reply comes before the next slot (the model's reading, log 12). -/
def Obligations.MissedReply : Prop :=
  ∀ (s : State) (late : Bool) (e : Word) (k : Nat) (f : RequestFrame) (o : Option SlotOutcome),
    s.bus.slotTimer = some e → s.bus.slot = some { request := some (k, f), decided := o } → o ≠ some .good →
    1 ≤ k → k ≤ 8 → k ≤ s.standCount →
    let d := s.drive k
    let lost := d.answering ≠ .lost ∧ 2 ≤ d.missed
    ∃ u, exec (.slotTimerExpiry late) s = .next u ∧
      (u.drive k).missed = min (d.missed + 1) 3 ∧ (u.drive k).good = 0 ∧
      (u.drive k).missedTotal = bump d.missedTotal ∧ (u.drive k).last = d.last ∧
      (u.drive k).accepted = d.accepted ∧ (u.drive k).baseline = d.baseline ∧
      (lost →
        (u.drive k).answering = .lost ∧ (u.drive k).baselineValid = false ∧
          (u.drive k).lostEntries = bump d.lostEntries ∧ u.asserted (47 + k) = true) ∧
      (¬ lost →
        (u.drive k).answering = d.answering ∧ (u.drive k).baselineValid = d.baselineValid ∧
          (u.drive k).lostEntries = d.lostEntries) ∧
      (∀ y, y < 62 → y ≠ 47 + k → u.asserted y = s.asserted y) ∧
      u.tracking = s.tracking ∧ u.gauges = s.gauges ∧ s.hostSideKept u

/-- Frames that are no good reply: in an open and undecided window a bad frame, a REPLY with a field out of range and a
REPLY from another address each count and decide the slot as missed; any other frame of a slot counts as stray (R82), any
frame in the window of a stand that has left the layout too (R97); a frame while no slot runs is discarded. Nothing else
changes. Three points are the model's choice (log 15): the frame while no slot runs, a bad frame as stray in the window of a
stand that has left the layout, where R97 speaks of a reply, and a REPLY with both faults as a bad frame. -/
def Obligations.BusFrameDecides : Prop :=
  ∀ (s : State) (f : ReplyFrame),
    (∀ k q, s.bus.slot = some { request := some (k, q), decided := none } → k ≤ s.standCount →
      let decided (b : Bus) : Prop :=
        b = { s.bus with slot := some { request := some (k, q), decided := some .missed }
                         badFrames := b.badFrames, wrongAddress := b.wrongAddress }
      (∀ c, c = .standBusBadFrame ∨ (c = .reply f ∧ f.inRange = false) →
        ∃ u, exec c s = .next u ∧ s.onlyBus u ∧ decided u.bus ∧ u.bus.badFrames = bump s.bus.badFrames ∧
          u.bus.wrongAddress = s.bus.wrongAddress) ∧
      (f.inRange = true → f.address.toNat ≠ k →
        ∃ u, exec (.reply f) s = .next u ∧ s.onlyBus u ∧ decided u.bus ∧ u.bus.badFrames = s.bus.badFrames ∧
          u.bus.wrongAddress = bump s.bus.wrongAddress)) ∧
    (∀ c, c = .standBusBadFrame ∨ c = .reply f →
      (∀ x, s.bus.slot = some x → (∀ k q, x = { request := some (k, q), decided := none } → s.standCount < k) →
        ∃ u, exec c s = .next u ∧ s.onlyBus u ∧ u.bus = { s.bus with strays := bump s.bus.strays }) ∧
      (s.bus.slot = none → ∃ u, exec c s = .next u ∧ s.onlyBus u ∧ u.bus = s.bus))

/-- A good reply in an open and undecided window of drive k. The first of a LOST drive is a recovery reply: it sets the
baseline and nothing else. Any other is accepted: the drive record takes it, two in a row make the drive ANSWERING, the
drive source follows its FAULT flag, and the station's loaded flag follows its LOADED flag. In ARMED the length delta,
of a drive with a baseline, first reaches the stations that the stand feeds: at a THREADED one the segments that the
accumulator covers pass in one go and the station threads the next, awaits it or drains; a tail drain grows, or overruns
its allowance once. Then LOADED set at an EMPTY stand threads the front segment, or finds none and is a mismatch, and
LOADED clear at a loaded stand ends what the delta left: an early tail, an await or a drain. The event records join a
queue that has room for one record of each of the stand's stations; that at just this room no record caused by an
announcement goes before them is the model's reading (log 13). -/
def Obligations.ReplyTaken : Prop :=
  ∀ (s : State) (f : ReplyFrame) (k : Nat) (q : RequestFrame),
    s.bus.slot = some { request := some (k, q), decided := none } → k ≤ s.standCount → f.inRange = true →
    f.address.toNat = k →
    let d := s.drive k
    let recovery := d.answering = .lost ∧ d.good = 0
    (recovery →
      ∃ u, exec (.reply f) s = .next u ∧ s.onlyBus u ∧
        u.bus = { s.bus with slot := some { request := some (k, q), decided := some .good }, drives := u.bus.drives } ∧
        u.drive k = { d with good := 1, missed := 0, baseline := f.lengthCount, baselineValid := true } ∧
        ∀ i, i ≠ k → u.drive i = s.drive i) ∧
    (¬ recovery →
      let delta := s.deltaOf k f
      let j := s.stationOfStand k
      let room := s.reports.queue.length + (s.stationsOf k).length ≤ 16
      let loadOff := f.loaded = false ∧ (s.station j).loaded = true
      ∃ u, exec (.reply f) s = .next u ∧
        u.bus.slot = some { request := some (k, q), decided := some .good } ∧
        u.drive k = { d with
          good := min (d.good + 1) 2, missed := 0, baseline := f.lengthCount, baselineValid := true
          answering := if 1 ≤ d.good then .answering else d.answering
          accepted := bump d.accepted
          last := some
            { gap := f.actualGap.toNat, force := f.force.toNat, length := f.lengthCount, ready := f.ready
              loaded := f.loaded, following := f.following, opened := f.opened, fault := f.fault
              time := s.clock.millTime } } ∧
        (∀ i, i ≠ k → u.drive i = s.drive i) ∧
        u.asserted (47 + k) = f.fault ∧ (∀ y, y < 62 → y ≠ 47 + k → u.asserted y = s.asserted y) ∧
        s.hostSideKept u ∧ u.gauges = s.gauges ∧ u.clock = s.clock ∧
        (s.spansStand → (u.station j).loaded = f.loaded) ∧
        (s.trackingSound →
          (∀ i, i ∈ s.stationsOf k → (∀ h, h ∈ s.stationsOf k → h < i → s.passing h delta = []) →
            (∀ x, x ∈ s.passing i delta →
              u.segmentPassed i x f.actualGap.toNat f.force.toNat ∧
                (i = j → ∀ e, e ∈ (u.channel k).plans → e.key ≠ x.key)) ∧
            (¬ loadOff → (i = j → f.loaded = (s.station j).loaded ∨ (s.station j).form ≠ .empty) →
              s.deltaTaken u i delta ∧
                ∀ c l, s.overruns i delta → (s.station i).form = .tailDrain c true l → room →
                  .track i .overrun c (s.station i).lastPassed s.clock.millTime ∈ u.reports.queue)) ∧
          (f.loaded = true → (s.station j).loaded = false → (s.station j).form = .empty →
            (s.station j).transparent = false →
            (∀ x rest, s.span (j - 1) = x :: rest →
              (u.station j).form = .threaded x.key 0 ∧ (u.station j).biteEntries = bump (s.station j).biteEntries) ∧
            (s.span (j - 1) = [] →
              (u.station j).form = .untracked ∧ s.mismatchRaised u j ∧
                (room → .track j .headUnexpected 0#32 0 s.clock.millTime ∈ u.reports.queue))) ∧
          (loadOff → (s.station j).transparent = false →
            (u.station j).form = .empty ∧
              (∀ b a, s.formAfter j delta = .threaded b a →
                (u.station j).closedCoil = some b.coil ∧
                  (u.station j).earlyTails = bump (s.station j).earlyTails ∧
                  (u.station j).passages = Nat.repeat bump ((s.passing j delta).length + 1) (s.station j).passages ∧
                  (u.station j).lastPassed = b.number ∧ u.attentionIs .warning = true ∧
                  (room → .track j .earlyTail b.coil b.number s.clock.millTime ∈ u.reports.queue) ∧
                  ∀ x rest, u.span (j - 1) = x :: rest → x.key.coil ≠ b.coil ∧ x.shortened = false) ∧
              (∀ c, s.formAfter j delta = .awaiting c ∨ (s.station j).form = .awaiting c →
                (u.station j).closedCoil = some c))))

/-- What channel k does with an accepted reply, in the state in which the Tracking Unit has taken it: RECOVERING becomes
IDLE at the reply's gap when READY is set and FAULT clear, OPENING becomes OPEN when OPENED is set, a ramp takes its
pacing and its not-following count, and the eighth reply in a row that does not follow stalls it; otherwise the channel
is as it was. A channel changes further only when the drive source latches a group that strikes it. What the Tracking
Unit hands on before: nothing outside ARMED, or where the reply passes no segment, overruns nothing and brings no load
event; a bite entry, when the strip's head comes to the stand; the feedback of a gauge, when one segment passes its
station. The current plan value that a struck channel keeps is the model's choice (log 33). -/
def Obligations.ChannelTakesReply : Prop :=
  ∀ (s : State) (f : ReplyFrame) (k : Nat) (q : RequestFrame),
    s.bus.slot = some { request := some (k, q), decided := none } → k ≤ s.standCount → f.inRange = true →
    f.address.toNat = k → ((s.drive k).answering ≠ .lost ∨ 1 ≤ (s.drive k).good) →
    let v := s.replyTracked k f
    let c := v.channel k
    let g := f.actualGap.toNat
    let delta := s.deltaOf k f
    let j := s.stationOfStand k
    (∃ u, exec (.reply f) s = .next u ∧
      (c.state = .recovering → f.ready = true → f.fault = false →
        v.channelOrStruck u k (v.judged k { c with
          state := .idle, planTarget := g, planValue := g, feedback := 0, feedForward := 0, lastSent := g })) ∧
      (c.state = .opening → f.opened = true → u.channel k = { c with state := .opened }) ∧
      (∀ r, c.state = .ramping → c.ramp = some r →
        (f.following = true →
          v.channelOrStruck u k { c with
            ramp := some { r with
              notFollowing := 0, stepDue := r.stepDue || r.followingAwaited, followingAwaited := false } }) ∧
        (f.following = false → r.notFollowing < 7 →
          v.channelOrStruck u k { c with ramp := some { r with notFollowing := r.notFollowing + 1 } }) ∧
        (f.following = false → 7 ≤ r.notFollowing →
          v.channelOrStruck u k
            { v.judged k { c with state := .idle, ramp := none, planTarget := c.planValue, release := false } with
              stalls := bump c.stalls } ∧
            u.bus.owner ≠ some k ∧ u.attentionIs .warning = true ∧
            (v.reports.queue.length < 15 → .stall k c.lastSent g s.clock.millTime ∈ u.reports.queue))) ∧
      ((c.state = .recovering ∧ (f.ready = false ∨ f.fault = true)) ∨ (c.state = .opening ∧ f.opened = false) ∨
          c.state = .idle ∨ c.state = .opened ∨ c.state = .absent →
        v.channelOrStruck u k c) ∧
      (∀ i, 1 ≤ i → i ≤ 8 → i ≠ k → v.channelOrStruck u i (v.channel i))) ∧
    (s.orders.mill ≠ .armed ∨
        (s.trackingSound ∧ s.passesNothing k delta ∧ f.loaded = (s.station j).loaded) →
      v.channels = s.channels ∧ v.reports = s.reports ∧ v.protection = s.protection) ∧
    (s.trackingSound → s.passesNothing k delta → f.loaded = true → (s.station j).loaded = false →
      (s.station j).form = .empty → (s.station j).transparent = false → ∀ x rest, s.span (j - 1) = x :: rest →
      s.biteTaken v k x.key ∧ s.otherChannelsKept v k) ∧
    (s.trackingSound → s.segmentKeys.Nodup → f.loaded = (s.station j).loaded → ∀ i n x, i ∈ s.stationsOf k →
      (s.station i).kind = .gauge n → s.passing i delta = [x] →
      (∀ h, h ∈ s.stationsOf k → h ≠ i → h < i ∧ s.passing h delta = [] ∧ ¬ s.overruns h delta) →
      let m := num x.meas n
      let corrects := (s.gaugeSettings n).minimumCount ≤ m.count ∧ m.count ≠ 0 ∧
        ((s.channel k).state = .idle ∨ (s.channel k).state = .ramping)
      (corrects →
        (v.channel k).feedback =
          heldTo (s.standSettings k).trimLimit
            ((s.channel k).feedback + trimChange m (s.gaugeSettings n).feedbackGain)) ∧
      (¬ corrects → (v.channel k).feedback = (s.channel k).feedback))

/-! ## Tracking (R40 to R62) -/

/-- What a channel does with what an action of the Tracking Unit announces: at a bite entry a WAITING plan of the
segment fires, the feed-forward trim of a running channel is set from the gauge before the stand, and the segment
records its target; at a passage at the stand a plan of the segment lapses; a NORMAL passage at a gauge corrects the
feedback trim of a running channel from a block with enough samples, and any other does nothing. A SAMPLE whose debounce
ends in a changed presence at a READY gauge's station, the mill ARMED and the station not transparent. Strip present at
an EMPTY station: it is THREADED with the front segment of the span before it, or, that span empty, DRAINING untracked
with a mismatch. Strip gone at a THREADED station: early tail; no segment of the coil is left at the front of the span
before it. That a passage which takes no plan leaves the release flag of a GATED channel as it was is the model's reading
(log 14). -/
def Obligations.StripHeadAndEarlyTail : Prop :=
  (∀ (s : State) (k g : Nat) (key : SegKey) (kind : PassageKind), 1 ≤ k → k ≤ 8 →
    let c := s.channel k
    let entered := s.announce (.biteEntry k key)
    let passed := s.announce (.standPassage k key)
    let measured := s.announce (.gaugePassage g k key kind)
    let corrects (m : MeasBlock) : Prop :=
      kind = .normal ∧ (∃ x, s.segment key = some x ∧ m = num x.meas g) ∧
        (s.gaugeSettings g).minimumCount ≤ m.count ∧ m.count ≠ 0 ∧ (c.state = .idle ∨ c.state = .ramping)
    (s.biteTaken entered k key ∧ s.otherChannelsKept entered k) ∧
    (s.otherChannelsKept passed k ∧ passed.tracking = s.tracking ∧
      ((∃ e, e ∈ c.plans ∧ e.key = key) →
        Channel.plansLeft { c with plansLapsed := bump c.plansLapsed } (passed.channel k)
          (c.plans.filter (fun e => e.key != key))) ∧
      ((∀ e, e ∈ c.plans → e.key ≠ key) → passed.channel k = c)) ∧
    (∀ m, corrects m →
      let v := heldTo (s.standSettings k).trimLimit (c.feedback + trimChange m (s.gaugeSettings g).feedbackGain)
      (c.feedback ≠ v →
        measured.channel k = s.judged k { c with feedback := v } ∧ s.otherChannelsKept measured k ∧
          measured.tracking = s.tracking) ∧
      (c.feedback = v → measured = s)) ∧
    ((∀ m, ¬ corrects m) → measured = s)) ∧
  ∀ (s : State) (link : Fin 4) (thickness : BitVec 16) (present doubtful : Bool) (g j : Nat),
    s.gaugeOnLink (link + 1) = some g → (s.gauge g).state = .ready → (s.gauge g).station = some j →
    (s.gauge g).debounce = 2 → (s.gauge g).present = !present → s.orders.mill = .armed →
    1 ≤ j → j ≤ s.stationCount → s.tracking.stations.length = s.stationCount → (s.station j).transparent = false →
    ∃ u, exec (.gaugeSample link thickness present doubtful) s = .next u ∧
      (u.gauge g).present = present ∧ (u.gauge g).debounce = 0 ∧ (u.station j).loaded = present ∧
      (∀ x rest, present = true → (s.station j).form = .empty → s.span (j - 1) = x :: rest →
        (u.station j).form = .threaded x.key 0 ∧ (u.station j).biteEntries = bump (s.station j).biteEntries ∧
          (u.station j).mismatches = (s.station j).mismatches) ∧
      (present = true → (s.station j).form = .empty → s.span (j - 1) = [] →
        (u.station j).form = .untracked ∧ (u.station j).mismatches = bump (s.station j).mismatches ∧
          u.attentionIs .warning = true ∧
          (s.reports.queue.length < 15 → .track j .headUnexpected 0#32 0 s.clock.millTime ∈ u.reports.queue) ∧
          ((s.mapEntry 60).masked = false → (s.mapEntry 60).group < 16 →
            (u.group (s.mapEntry 60).group).latched = true ∧
              (u.group (s.mapEntry 60).group).causes.getLsbD 60 = true)) ∧
      (∀ b a, present = false → (s.station j).form = .threaded b a →
        (u.station j).form = .empty ∧ (u.station j).closedCoil = some b.coil ∧
          (u.station j).earlyTails = bump (s.station j).earlyTails ∧
          (u.station j).passages = bump (s.station j).passages ∧ (u.station j).lastPassed = b.number ∧
          u.attentionIs .warning = true ∧
          (s.reports.queue.length < 15 → .track j .earlyTail b.coil b.number s.clock.millTime ∈ u.reports.queue) ∧
          ∀ x rest, u.span (j - 1) = x :: rest → x.key.coil ≠ b.coil ∧ x.shortened = false)

/-- Length deltas, load events, advances and the omission of a gauge move segments from span to span and neither make
nor lose one. Every command leaves the strip settled, with nothing for the front rule to move and each bite at the front
of the span before its station, and the segment keys distinct; of ANNOUNCE COIL that is said where the segments, the closed
coils and the awaited coils of the mill belong to coils of the table, and of WITHDRAW COIL, for the settled strip, where
no ANNOUNCED coil has entered the mill: its segments stand in span 0 alone and none is a bite, and no segment of span 0 is
SHORTENED or of the coil that station 1 closed or awaits. -/
def Obligations.StripConserved : Prop :=
  ∀ (s u : State) (c : Instr), exec c s = .next u →
    ((∃ f, c = .reply f) ∨ (∃ l x p d, c = .gaugeSample l x p d) ∨ (∃ b, c = .slotTimerExpiry b) ∨
        c = .advanceStation ∨ c = .omitGauge →
      s.orders.tables ≠ none → s.spansStand → u.segmentKeys.Perm s.segmentKeys) ∧
    (s.spansStand → s.stripSettled →
      (c = .announceCoil →
        (s.station 1).transparent = false ∧
          ∀ id, (s.station 1).closedCoil = some id ∨ (s.station 1).form = .awaiting id → s.coilById id ≠ none) →
      (c = .withdrawCoil → s.announcedWait) →
      u.stripSettled) ∧
    (s.segmentKeys.Nodup →
      (c = .announceCoil → ∀ x, x ∈ s.tracking.spans.flatten → s.coilById x.key.coil ≠ none) →
      u.segmentKeys.Nodup)

/-! ## Gauge links (R63 to R73) -/

/-- A good SAMPLE counts on its link. An OMITTED gauge discards it, a gauge that is neither READY nor SILENT discards it
and restarts its silence timer, and a READY or SILENT one takes it: record, counters, debounce, and from SILENT the
state READY with the gauge's source clear, a GAUGE EVENT record naming READY and WARNING. A taken sample that sees
strip, in ARMED at a THREADED station, goes to the measurement block of the bite: an OK one with its deviation, held
to 5,000 either way, a DOUBTFUL one as a count. Any other changes no block and, without a change of presence, no span. -/
def Obligations.GaugeSample : Prop :=
  ∀ (s : State) (link : Fin 4) (thickness : BitVec 16) (present doubtful : Bool),
    ∃ u, exec (.gaugeSample link thickness present doubtful) s = .next u ∧
      num u.gaugeLinks (link + 1) =
        { num s.gaugeLinks (link + 1) with good := bump (num s.gaugeLinks (link + 1)).good } ∧
      (∀ l, l ≠ link.val + 1 → num u.gaugeLinks l = num s.gaugeLinks l) ∧
      s.hostSideKept u ∧ u.clock = s.clock ∧ u.bus.slot = s.bus.slot ∧ u.bus.drives = s.bus.drives ∧
      (s.gaugeOnLink (link + 1) = none →
        u.gauges = s.gauges ∧ u.tracking = s.tracking ∧ u.channels = s.channels ∧ s.protectionKept u ∧
          u.reports = s.reports) ∧
      ∀ g, s.gaugeOnLink (link + 1) = some g →
        let r := s.gauge g
        let silence := some (s.clock.millTime + BitVec.ofNat 32 ((s.gaugeSettings g).silenceTime * 1000))
        let flips := present ≠ r.present ∧ 2 ≤ r.debounce
        (∀ i, i ≠ g → u.gauge i = s.gauge i) ∧
        (r.state = .omitted → u.gauge g = { r with discarded := bump r.discarded }) ∧
        (r.state = .waiting ∨ r.state = .standardising ∨ r.state = .shuttered ∨ r.state = .fault →
          u.gauge g = { r with discarded := bump r.discarded, silence := silence }) ∧
        (r.state = .ready ∨ r.state = .silent →
          u.gauge g = { r with
            state := .ready, silence := silence
            standardise := if r.state = .silent then none else r.standardise
            samples := bump r.samples, doubtful := if doubtful then bump r.doubtful else r.doubtful
            last := some { thickness := thickness.toNat, stripPresent := present, doubtful := doubtful
                           time := s.clock.millTime }
            debounce := if present ≠ r.present ∧ r.debounce < 2 then r.debounce + 1 else 0
            present := if flips then present else r.present }) ∧
        (r.state = .silent →
          u.asserted (55 + g) = false ∧ u.attentionIs .warning = true ∧
            (s.reports.queue.length < 16 → .gauge g .ready s.clock.millTime ∈ u.reports.queue)) ∧
        (r.state = .ready ∨ r.state = .silent →
          let t := s.station (r.station.getD 0)
          (∀ b a x, present = true → s.orders.mill = .armed → t.form = .threaded b a → s.coilById b.coil = some x →
            ∀ i, u.span i = (s.span i).map (fun y =>
              if y.key = b then
                { y with
                  meas := upd y.meas g (fun m => m.taken thickness.toNat (numL x.thicknesses t.feeding) doubtful) }
              else y)) ∧
          (¬ (present = true ∧ s.orders.mill = .armed ∧ t.bite ≠ none) → ¬ flips →
            u.tracking.spans = s.tracking.spans))

/-- A good STATE frame: an OMITTED gauge discards it; any other gauge in service takes the state it names, with its
silence timer restarted, the standardise timer running in STANDARDISING alone, its source asserted in FAULT and clear
otherwise, and a GAUGE EVENT record at the entry to FAULT or from FAULT or SILENT to READY. -/
def Obligations.GaugeStateFrame : Prop :=
  ∀ (s : State) (link : Fin 4) (report : GaugeReport) (g : Nat), s.gaugeOnLink (link + 1) = some g →
    let r := s.gauge g
    let new := GaugeReport.state report
    let event := (new = .fault ∧ r.state ≠ .fault) ∨ (new = .ready ∧ (r.state = .fault ∨ r.state = .silent))
    ∃ u, exec (.gaugeState link report) s = .next u ∧
      num u.gaugeLinks (link + 1) =
        { num s.gaugeLinks (link + 1) with good := bump (num s.gaugeLinks (link + 1)).good } ∧
      (∀ i, i ≠ g → u.gauge i = s.gauge i) ∧ s.hostSideKept u ∧ u.tracking = s.tracking ∧
      (r.state = .omitted → u.gauge g = { r with discarded := bump r.discarded }) ∧
      (r.state ≠ .omitted → r.state ≠ .absent →
        u.gauge g = { r with
          state := new
          silence := some (s.clock.millTime + BitVec.ofNat 32 ((s.gaugeSettings g).silenceTime * 1000))
          standardise :=
            if new = r.state then r.standardise
            else if new = .standardising then
              some (s.clock.millTime + BitVec.ofNat 32 ((s.gaugeSettings g).standardiseLimit * 1000000))
            else none
          debounce := if r.state = .ready ∧ new ≠ .ready then 0 else r.debounce } ∧
        (new ≠ r.state → u.asserted (55 + g) = decide (new = .fault)) ∧
        (∀ y, y < 62 → y ≠ 55 + g → u.asserted y = s.asserted y) ∧
        (event → u.attentionIs .warning = true ∧
          (s.reports.queue.length < 15 → .gauge g new s.clock.millTime ∈ u.reports.queue)) ∧
        (¬ event → u.reports = s.reports ∧ u.protection.groups = s.protection.groups))

/-- The silence timer's expiry makes a gauge SILENT and the standardise timer's expiry makes a STANDARDISING gauge
FAULT, each with its timers, its debounce counter, its source and its GAUGE EVENT record; a stopped timer's changes
nothing (log 2). A bad frame counts on its link and with its gauge and changes nothing else. -/
def Obligations.GaugeTimersAndBadFrames : Prop :=
  ∀ (s : State) (i : Fin 4),
    let g := i.val + 1
    let r := s.gauge g
    (r.silence = none → exec (.silenceTimerExpiry i) s = .next s) ∧
    (r.standardise = none → exec (.standardiseTimerExpiry i) s = .next s) ∧
    (∀ e, r.silence = some e → r.state ≠ .silent →
      ∃ u, exec (.silenceTimerExpiry i) s = .next u ∧ u.clock.millTime = timeAt e s.clock.millTime ∧
        u.gauge g = { r with state := .silent, silence := none, standardise := none, debounce := 0 } ∧
        (∀ x, x ≠ g → u.gauge x = s.gauge x) ∧ u.asserted (55 + g) = true ∧ u.attentionIs .warning = true ∧
        (s.reports.queue.length < 15 → .gauge g .silent u.clock.millTime ∈ u.reports.queue) ∧
        s.hostSideKept u ∧ u.tracking = s.tracking ∧ u.gaugeLinks = s.gaugeLinks) ∧
    (∀ e, r.standardise = some e → r.state = .standardising →
      ∃ u, exec (.standardiseTimerExpiry i) s = .next u ∧ u.clock.millTime = timeAt e s.clock.millTime ∧
        u.gauge g = { r with state := .fault, standardise := none } ∧
        (∀ x, x ≠ g → u.gauge x = s.gauge x) ∧ u.asserted (55 + g) = true ∧ u.attentionIs .warning = true ∧
        (s.reports.queue.length < 15 → .gauge g .fault u.clock.millTime ∈ u.reports.queue) ∧
        s.hostSideKept u ∧ u.tracking = s.tracking ∧ u.gaugeLinks = s.gaugeLinks) ∧
    ∃ u, exec (.gaugeBadFrame i) s = .next u ∧
      num u.gaugeLinks g = { num s.gaugeLinks g with bad := bump (num s.gaugeLinks g).bad } ∧
      (∀ l, l ≠ g → num u.gaugeLinks l = num s.gaugeLinks l) ∧
      (∀ x, u.gauge x = if s.gaugeOnLink g = some x then { s.gauge x with badFrames := bump (s.gauge x).badFrames }
        else s.gauge x) ∧
      u.clock = s.clock ∧ u.port = s.port ∧ u.orders = s.orders ∧ u.tracking = s.tracking ∧ u.bus = s.bus ∧
      u.channels = s.channels ∧ s.protectionKept u ∧ u.reports = s.reports

/-! ## Protection links (R124 to R131) -/

/-- A good frame restarts the loss timer and counts. On a DOWN link it brings the link UP and is not acted on. On an UP
link ASSERT of a clear source asserts it, judged as R131 gives while the mill is configured; DEASSERT clears the source;
HEARTBEAT and ASSERT of an asserted source change no source. A bad frame counts and does nothing else. -/
def Obligations.ProtectionFrames : Prop :=
  ∀ (s : State) (link : Fin 4) (input : Fin 12),
    let l := link.val + 1
    let r := num s.protection.links l
    let x := 12 * link.val + input.val
    let good (u : State) : Prop :=
      num u.protection.links l = { r with
        up := true, loss := some (s.clock.millTime + 8000#32), good := bump r.good } ∧
      (∀ i, i ≠ l → num u.protection.links i = num s.protection.links i) ∧
      u.clock = s.clock ∧ s.hostSideKept u ∧ u.tracking = s.tracking ∧ u.gauges = s.gauges ∧ u.gaugeLinks = s.gaugeLinks
    let quietly (u : State) : Prop :=
      u.protection.groups = s.protection.groups ∧ u.port = s.port ∧ u.bus = s.bus ∧ u.channels = s.channels ∧
        u.reports = s.reports
    (∀ c, c = .assertInput link input ∨ c = .deassertInput link input ∨ c = .heartbeat link → r.up = false →
      ∃ u, exec c s = .next u ∧ good u ∧ quietly u ∧ u.protection.sources = s.protection.sources) ∧
    (r.up = true →
      (∃ u, exec (.heartbeat link) s = .next u ∧ good u ∧ quietly u ∧ u.protection.sources = s.protection.sources) ∧
      (∃ u, exec (.deassertInput link input) s = .next u ∧ good u ∧ quietly u ∧ u.asserted x = false ∧
        ∀ y, y < 62 → y ≠ x → u.asserted y = s.asserted y) ∧
      (∃ u, exec (.assertInput link input) s = .next u ∧ good u ∧ u.asserted x = true ∧
        (∀ y, y < 62 → y ≠ x → u.asserted y = s.asserted y) ∧
        (s.asserted x = true ∨ s.orders.mill = .unconfigured → quietly u) ∧
        (s.asserted x = false → s.orders.mill ≠ .unconfigured → s.assertionJudged u x))) ∧
    ∃ u, exec (.protectionBadFrame link) s = .next u ∧ quietly u ∧ s.hostSideKept u ∧
      num u.protection.links l = { r with bad := bump r.bad } ∧
      (∀ i, i ≠ l → num u.protection.links i = num s.protection.links i) ∧
      u.protection.sources = s.protection.sources ∧ u.clock = s.clock ∧ u.tracking = s.tracking ∧ u.gauges = s.gauges

/-- The loss timer's expiry takes its link DOWN and asserts its 12 field sources. While the mill is configured, a clear
group latches exactly when one of the sources that were clear is mapped to it unmasked, with the lowest such source as
first cause and all of them as causes, and a latched group gains them. A stopped timer's expiry changes nothing (log 2).
-/
def Obligations.LinkLoss : Prop :=
  ∀ (s : State) (link : Fin 4),
    let l := link.val + 1
    let r := num s.protection.links l
    let ofLink (x : Nat) : Prop := 12 * link.val ≤ x ∧ x < 12 * link.val + 12
    let into (g x : Nat) : Prop :=
      ofLink x ∧ s.asserted x = false ∧ (s.mapEntry x).masked = false ∧ (s.mapEntry x).group = g
    (r.loss = none → exec (.lossTimerExpiry link) s = .next s) ∧
    (∀ e, r.loss = some e →
      ∃ u, exec (.lossTimerExpiry link) s = .next u ∧ u.clock.millTime = timeAt e s.clock.millTime ∧
        num u.protection.links l = { r with up := false, loss := none, losses := bump r.losses } ∧
        (∀ i, i ≠ l → num u.protection.links i = num s.protection.links i) ∧
        (∀ x, x < 62 → (u.asserted x = true ↔ ofLink x ∨ s.asserted x = true)) ∧
        (s.orders.mill = .unconfigured → u.protection.groups = s.protection.groups ∧ u.reports = s.reports) ∧
        (s.orders.mill ≠ .unconfigured → ∀ g, g < 16 →
          ((s.group g).latched = true →
            u.group g = { s.group g with causes := (u.group g).causes } ∧
              ∀ x, x < 62 → ((u.group g).causes.getLsbD x = true ↔ (s.group g).causes.getLsbD x = true ∨ into g x)) ∧
          ((s.group g).latched = false → (∀ x, ¬ into g x) → u.group g = s.group g) ∧
          ((s.group g).latched = false → (∃ x, into g x) →
            s.latchHolds u g (s.group g).config ∧
              (∀ x, into g x → (∀ y, into g y → x ≤ y) → (u.group g).firstCause = some x) ∧
              ∀ x, x < 62 → ((u.group g).causes.getLsbD x = true ↔ into g x))) ∧
        u.tracking = s.tracking ∧ u.gauges = s.gauges ∧ s.hostSideKept u)

/-! ## Serial frames (R182, R183) -/

/-- Every frame that a drive, a gauge or a protection box sends as R182 lays it out is received as the command it stands
for. -/
def Obligations.FramesRoundTrip : Prop :=
  (∀ f : ReplyFrame, f.inRange = true → standBusCommand (sent (replyBytes f)) = .reply f) ∧
  (∀ (link : Fin 4) (x : BitVec 16) (present doubtful : Bool),
    gaugeCommand link (sent (sampleBytes x present doubtful)) = .gaugeSample link x present doubtful) ∧
  (∀ (link : Fin 4) (r : GaugeReport), gaugeCommand link (sent (stateBytes r)) = .gaugeState link r) ∧
  (∀ (link : Fin 4) (input : Fin 12),
    protectionCommand link (sent (assertBytes input)) = .assertInput link input ∧
      protectionCommand link (sent (deassertBytes input)) = .deassertInput link input) ∧
  (∀ link : Fin 4, protectionCommand link (sent heartbeatBytes) = .heartbeat link)

/-! ## What always holds -/

/-- The machine right after power-on reset holds its reset values, and every property below. Of the reset values a request
presented of none, a clear grant, an effective target of 0 and no slot in progress are the model's choice (log 23), and
that no first slot waits is the model's own field (log 11). -/
def Obligations.InvariantsAtReset : Prop :=
  State.reset.atReset ∧ State.reset.memoryCanonical ∧ State.reset.recordsShow ∧ State.reset.linesFollow ∧
    State.reset.queuesWithin ∧ State.reset.tablesStand ∧ State.reset.groupsLegal ∧ State.reset.sourcesFollow ∧
    State.reset.slotLegal ∧ State.reset.channelsLegal ∧ State.reset.targetsFollow ∧ State.reset.layoutStands ∧
    State.reset.struckOpen ∧ State.reset.tablesInRange ∧ State.reset.spansStand ∧ State.reset.stationsFollow ∧
    State.reset.gaugesStand ∧ State.reset.stripSettled

/-- Every step keeps exchange memory in its canonical form. -/
def Obligations.MemoryStaysCanonical : Prop :=
  ∀ s s' : State, s.memoryCanonical → step s = .next s' → s'.memoryCanonical

/-- Every step leaves the status region showing the blocks and the trip lines standing as their conditions give them. -/
def Obligations.PublishedStateFollows : Prop :=
  ∀ s s' : State, s.recordsShow → s.linesFollow → step s = .next s' → s'.recordsShow ∧ s'.linesFollow

/-- Every step keeps the queues within their places, the working tables with the mill state and within the ranges of a
valid region, the group records legal, the stations and spans those of the station list, and each gauge present exactly
when the list names it. -/
def Obligations.BooksKept : Prop :=
  ∀ s s' : State, s.queuesWithin → s.tablesStand → s.tablesInRange → s.groupsLegal → s.spansStand → s.stationsFollow →
    s.gaugesStand → step s = .next s' →
    s'.queuesWithin ∧ s'.tablesStand ∧ s'.tablesInRange ∧ s'.groupsLegal ∧ s'.spansStand ∧ s'.stationsFollow ∧
      s'.gaugesStand

/-- Every step keeps the internal level sources with their owners. -/
def Obligations.SourcesFollowOwners : Prop :=
  ∀ s s' : State, s.slotLegal → s.sourcesFollow → step s = .next s' → s'.slotLegal ∧ s'.sourcesFollow

/-- Every step keeps each channel legal and each running channel's effective target and clamp flag with its plan value
and trims. -/
def Obligations.ChannelsFollowPlans : Prop :=
  ∀ s s' : State, s.channelsLegal → s.targetsFollow → step s = .next s' →
    s'.channelsLegal ∧ s'.targetsFollow

/-- Every step keeps a channel OPENING or OPEN exactly when a latched group strikes its stand, and the channels and
stand sets within the layout. -/
def Obligations.StruckStandsStayOpen : Prop :=
  ∀ s s' : State, s.channelsLegal → s.layoutStands → s.struckOpen → step s = .next s' →
    s'.layoutStands ∧ s'.struckOpen
end

