-- ==== Sys2Proof/Laws/State.lean ====
section
/-! SUPPORT. What each block update leaves and changes: one lemma per field per update. -/

namespace Sys2Proof.Machine

/-! ## setClock -/

@[simp] theorem State.setClock_clock (s : State) (v : Clock) : (s.setClock v).clock = v := rfl
@[simp] theorem State.setClock_port (s : State) (v : Clock) : (s.setClock v).port = s.port := rfl
@[simp] theorem State.setClock_orders (s : State) (v : Clock) : (s.setClock v).orders = s.orders := rfl
@[simp] theorem State.setClock_tracking (s : State) (v : Clock) : (s.setClock v).tracking = s.tracking := rfl
@[simp] theorem State.setClock_gauges (s : State) (v : Clock) : (s.setClock v).gauges = s.gauges := rfl
@[simp] theorem State.setClock_gaugeLinks (s : State) (v : Clock) : (s.setClock v).gaugeLinks = s.gaugeLinks := rfl
@[simp] theorem State.setClock_bus (s : State) (v : Clock) : (s.setClock v).bus = s.bus := rfl
@[simp] theorem State.setClock_channels (s : State) (v : Clock) : (s.setClock v).channels = s.channels := rfl
@[simp] theorem State.setClock_protection (s : State) (v : Clock) : (s.setClock v).protection = s.protection := rfl
@[simp] theorem State.setClock_reports (s : State) (v : Clock) : (s.setClock v).reports = s.reports := rfl
@[simp] theorem State.setClock_status (s : State) (v : Clock) : (s.setClock v).status = s.status := rfl
@[simp] theorem State.setClock_unstated (s : State) (v : Clock) : (s.setClock v).unstated = s.unstated := rfl
@[simp] theorem State.setClock_pending (s : State) (v : Clock) : (s.setClock v).pending = s.pending := rfl

/-! ## setPort -/

@[simp] theorem State.setPort_clock (s : State) (v : Port) : (s.setPort v).clock = s.clock := rfl
@[simp] theorem State.setPort_port (s : State) (v : Port) : (s.setPort v).port = v := rfl
@[simp] theorem State.setPort_orders (s : State) (v : Port) : (s.setPort v).orders = s.orders := rfl
@[simp] theorem State.setPort_tracking (s : State) (v : Port) : (s.setPort v).tracking = s.tracking := rfl
@[simp] theorem State.setPort_gauges (s : State) (v : Port) : (s.setPort v).gauges = s.gauges := rfl
@[simp] theorem State.setPort_gaugeLinks (s : State) (v : Port) : (s.setPort v).gaugeLinks = s.gaugeLinks := rfl
@[simp] theorem State.setPort_bus (s : State) (v : Port) : (s.setPort v).bus = s.bus := rfl
@[simp] theorem State.setPort_channels (s : State) (v : Port) : (s.setPort v).channels = s.channels := rfl
@[simp] theorem State.setPort_protection (s : State) (v : Port) : (s.setPort v).protection = s.protection := rfl
@[simp] theorem State.setPort_reports (s : State) (v : Port) : (s.setPort v).reports = s.reports := rfl
@[simp] theorem State.setPort_status (s : State) (v : Port) : (s.setPort v).status = s.status := rfl
@[simp] theorem State.setPort_unstated (s : State) (v : Port) : (s.setPort v).unstated = s.unstated := rfl
@[simp] theorem State.setPort_pending (s : State) (v : Port) : (s.setPort v).pending = s.pending := rfl

/-! ## setOrders -/

@[simp] theorem State.setOrders_clock (s : State) (v : OrderUnit) : (s.setOrders v).clock = s.clock := rfl
@[simp] theorem State.setOrders_port (s : State) (v : OrderUnit) : (s.setOrders v).port = s.port := rfl
@[simp] theorem State.setOrders_orders (s : State) (v : OrderUnit) : (s.setOrders v).orders = v := rfl
@[simp] theorem State.setOrders_tracking (s : State) (v : OrderUnit) : (s.setOrders v).tracking = s.tracking := rfl
@[simp] theorem State.setOrders_gauges (s : State) (v : OrderUnit) : (s.setOrders v).gauges = s.gauges := rfl
@[simp] theorem State.setOrders_gaugeLinks (s : State) (v : OrderUnit) : (s.setOrders v).gaugeLinks = s.gaugeLinks := rfl
@[simp] theorem State.setOrders_bus (s : State) (v : OrderUnit) : (s.setOrders v).bus = s.bus := rfl
@[simp] theorem State.setOrders_channels (s : State) (v : OrderUnit) : (s.setOrders v).channels = s.channels := rfl
@[simp] theorem State.setOrders_protection (s : State) (v : OrderUnit) : (s.setOrders v).protection = s.protection := rfl
@[simp] theorem State.setOrders_reports (s : State) (v : OrderUnit) : (s.setOrders v).reports = s.reports := rfl
@[simp] theorem State.setOrders_status (s : State) (v : OrderUnit) : (s.setOrders v).status = s.status := rfl
@[simp] theorem State.setOrders_unstated (s : State) (v : OrderUnit) : (s.setOrders v).unstated = s.unstated := rfl
@[simp] theorem State.setOrders_pending (s : State) (v : OrderUnit) : (s.setOrders v).pending = s.pending := rfl

/-! ## setTracking -/

@[simp] theorem State.setTracking_clock (s : State) (v : Tracking) : (s.setTracking v).clock = s.clock := rfl
@[simp] theorem State.setTracking_port (s : State) (v : Tracking) : (s.setTracking v).port = s.port := rfl
@[simp] theorem State.setTracking_orders (s : State) (v : Tracking) : (s.setTracking v).orders = s.orders := rfl
@[simp] theorem State.setTracking_tracking (s : State) (v : Tracking) : (s.setTracking v).tracking = v := rfl
@[simp] theorem State.setTracking_gauges (s : State) (v : Tracking) : (s.setTracking v).gauges = s.gauges := rfl
@[simp] theorem State.setTracking_gaugeLinks (s : State) (v : Tracking) : (s.setTracking v).gaugeLinks = s.gaugeLinks := rfl
@[simp] theorem State.setTracking_bus (s : State) (v : Tracking) : (s.setTracking v).bus = s.bus := rfl
@[simp] theorem State.setTracking_channels (s : State) (v : Tracking) : (s.setTracking v).channels = s.channels := rfl
@[simp] theorem State.setTracking_protection (s : State) (v : Tracking) : (s.setTracking v).protection = s.protection := rfl
@[simp] theorem State.setTracking_reports (s : State) (v : Tracking) : (s.setTracking v).reports = s.reports := rfl
@[simp] theorem State.setTracking_status (s : State) (v : Tracking) : (s.setTracking v).status = s.status := rfl
@[simp] theorem State.setTracking_unstated (s : State) (v : Tracking) : (s.setTracking v).unstated = s.unstated := rfl
@[simp] theorem State.setTracking_pending (s : State) (v : Tracking) : (s.setTracking v).pending = s.pending := rfl

/-! ## setGauges -/

@[simp] theorem State.setGauges_clock (s : State) (v : Vector Gauge 4) : (s.setGauges v).clock = s.clock := rfl
@[simp] theorem State.setGauges_port (s : State) (v : Vector Gauge 4) : (s.setGauges v).port = s.port := rfl
@[simp] theorem State.setGauges_orders (s : State) (v : Vector Gauge 4) : (s.setGauges v).orders = s.orders := rfl
@[simp] theorem State.setGauges_tracking (s : State) (v : Vector Gauge 4) : (s.setGauges v).tracking = s.tracking := rfl
@[simp] theorem State.setGauges_gauges (s : State) (v : Vector Gauge 4) : (s.setGauges v).gauges = v := rfl
@[simp] theorem State.setGauges_gaugeLinks (s : State) (v : Vector Gauge 4) : (s.setGauges v).gaugeLinks = s.gaugeLinks := rfl
@[simp] theorem State.setGauges_bus (s : State) (v : Vector Gauge 4) : (s.setGauges v).bus = s.bus := rfl
@[simp] theorem State.setGauges_channels (s : State) (v : Vector Gauge 4) : (s.setGauges v).channels = s.channels := rfl
@[simp] theorem State.setGauges_protection (s : State) (v : Vector Gauge 4) : (s.setGauges v).protection = s.protection := rfl
@[simp] theorem State.setGauges_reports (s : State) (v : Vector Gauge 4) : (s.setGauges v).reports = s.reports := rfl
@[simp] theorem State.setGauges_status (s : State) (v : Vector Gauge 4) : (s.setGauges v).status = s.status := rfl
@[simp] theorem State.setGauges_unstated (s : State) (v : Vector Gauge 4) : (s.setGauges v).unstated = s.unstated := rfl
@[simp] theorem State.setGauges_pending (s : State) (v : Vector Gauge 4) : (s.setGauges v).pending = s.pending := rfl

/-! ## setGaugeLinks -/

@[simp] theorem State.setGaugeLinks_clock (s : State) (v : Vector GaugeLink 4) : (s.setGaugeLinks v).clock = s.clock := rfl
@[simp] theorem State.setGaugeLinks_port (s : State) (v : Vector GaugeLink 4) : (s.setGaugeLinks v).port = s.port := rfl
@[simp] theorem State.setGaugeLinks_orders (s : State) (v : Vector GaugeLink 4) : (s.setGaugeLinks v).orders = s.orders := rfl
@[simp] theorem State.setGaugeLinks_tracking (s : State) (v : Vector GaugeLink 4) : (s.setGaugeLinks v).tracking = s.tracking := rfl
@[simp] theorem State.setGaugeLinks_gauges (s : State) (v : Vector GaugeLink 4) : (s.setGaugeLinks v).gauges = s.gauges := rfl
@[simp] theorem State.setGaugeLinks_gaugeLinks (s : State) (v : Vector GaugeLink 4) : (s.setGaugeLinks v).gaugeLinks = v := rfl
@[simp] theorem State.setGaugeLinks_bus (s : State) (v : Vector GaugeLink 4) : (s.setGaugeLinks v).bus = s.bus := rfl
@[simp] theorem State.setGaugeLinks_channels (s : State) (v : Vector GaugeLink 4) : (s.setGaugeLinks v).channels = s.channels := rfl
@[simp] theorem State.setGaugeLinks_protection (s : State) (v : Vector GaugeLink 4) : (s.setGaugeLinks v).protection = s.protection := rfl
@[simp] theorem State.setGaugeLinks_reports (s : State) (v : Vector GaugeLink 4) : (s.setGaugeLinks v).reports = s.reports := rfl
@[simp] theorem State.setGaugeLinks_status (s : State) (v : Vector GaugeLink 4) : (s.setGaugeLinks v).status = s.status := rfl
@[simp] theorem State.setGaugeLinks_unstated (s : State) (v : Vector GaugeLink 4) : (s.setGaugeLinks v).unstated = s.unstated := rfl
@[simp] theorem State.setGaugeLinks_pending (s : State) (v : Vector GaugeLink 4) : (s.setGaugeLinks v).pending = s.pending := rfl

/-! ## setBus -/

@[simp] theorem State.setBus_clock (s : State) (v : Bus) : (s.setBus v).clock = s.clock := rfl
@[simp] theorem State.setBus_port (s : State) (v : Bus) : (s.setBus v).port = s.port := rfl
@[simp] theorem State.setBus_orders (s : State) (v : Bus) : (s.setBus v).orders = s.orders := rfl
@[simp] theorem State.setBus_tracking (s : State) (v : Bus) : (s.setBus v).tracking = s.tracking := rfl
@[simp] theorem State.setBus_gauges (s : State) (v : Bus) : (s.setBus v).gauges = s.gauges := rfl
@[simp] theorem State.setBus_gaugeLinks (s : State) (v : Bus) : (s.setBus v).gaugeLinks = s.gaugeLinks := rfl
@[simp] theorem State.setBus_bus (s : State) (v : Bus) : (s.setBus v).bus = v := rfl
@[simp] theorem State.setBus_channels (s : State) (v : Bus) : (s.setBus v).channels = s.channels := rfl
@[simp] theorem State.setBus_protection (s : State) (v : Bus) : (s.setBus v).protection = s.protection := rfl
@[simp] theorem State.setBus_reports (s : State) (v : Bus) : (s.setBus v).reports = s.reports := rfl
@[simp] theorem State.setBus_status (s : State) (v : Bus) : (s.setBus v).status = s.status := rfl
@[simp] theorem State.setBus_unstated (s : State) (v : Bus) : (s.setBus v).unstated = s.unstated := rfl
@[simp] theorem State.setBus_pending (s : State) (v : Bus) : (s.setBus v).pending = s.pending := rfl

/-! ## setChannels -/

@[simp] theorem State.setChannels_clock (s : State) (v : Vector Channel 8) : (s.setChannels v).clock = s.clock := rfl
@[simp] theorem State.setChannels_port (s : State) (v : Vector Channel 8) : (s.setChannels v).port = s.port := rfl
@[simp] theorem State.setChannels_orders (s : State) (v : Vector Channel 8) : (s.setChannels v).orders = s.orders := rfl
@[simp] theorem State.setChannels_tracking (s : State) (v : Vector Channel 8) : (s.setChannels v).tracking = s.tracking := rfl
@[simp] theorem State.setChannels_gauges (s : State) (v : Vector Channel 8) : (s.setChannels v).gauges = s.gauges := rfl
@[simp] theorem State.setChannels_gaugeLinks (s : State) (v : Vector Channel 8) : (s.setChannels v).gaugeLinks = s.gaugeLinks := rfl
@[simp] theorem State.setChannels_bus (s : State) (v : Vector Channel 8) : (s.setChannels v).bus = s.bus := rfl
@[simp] theorem State.setChannels_channels (s : State) (v : Vector Channel 8) : (s.setChannels v).channels = v := rfl
@[simp] theorem State.setChannels_protection (s : State) (v : Vector Channel 8) : (s.setChannels v).protection = s.protection := rfl
@[simp] theorem State.setChannels_reports (s : State) (v : Vector Channel 8) : (s.setChannels v).reports = s.reports := rfl
@[simp] theorem State.setChannels_status (s : State) (v : Vector Channel 8) : (s.setChannels v).status = s.status := rfl
@[simp] theorem State.setChannels_unstated (s : State) (v : Vector Channel 8) : (s.setChannels v).unstated = s.unstated := rfl
@[simp] theorem State.setChannels_pending (s : State) (v : Vector Channel 8) : (s.setChannels v).pending = s.pending := rfl

/-! ## setProtection -/

@[simp] theorem State.setProtection_clock (s : State) (v : Protection) : (s.setProtection v).clock = s.clock := rfl
@[simp] theorem State.setProtection_port (s : State) (v : Protection) : (s.setProtection v).port = s.port := rfl
@[simp] theorem State.setProtection_orders (s : State) (v : Protection) : (s.setProtection v).orders = s.orders := rfl
@[simp] theorem State.setProtection_tracking (s : State) (v : Protection) : (s.setProtection v).tracking = s.tracking := rfl
@[simp] theorem State.setProtection_gauges (s : State) (v : Protection) : (s.setProtection v).gauges = s.gauges := rfl
@[simp] theorem State.setProtection_gaugeLinks (s : State) (v : Protection) : (s.setProtection v).gaugeLinks = s.gaugeLinks := rfl
@[simp] theorem State.setProtection_bus (s : State) (v : Protection) : (s.setProtection v).bus = s.bus := rfl
@[simp] theorem State.setProtection_channels (s : State) (v : Protection) : (s.setProtection v).channels = s.channels := rfl
@[simp] theorem State.setProtection_protection (s : State) (v : Protection) : (s.setProtection v).protection = v := rfl
@[simp] theorem State.setProtection_reports (s : State) (v : Protection) : (s.setProtection v).reports = s.reports := rfl
@[simp] theorem State.setProtection_status (s : State) (v : Protection) : (s.setProtection v).status = s.status := rfl
@[simp] theorem State.setProtection_unstated (s : State) (v : Protection) : (s.setProtection v).unstated = s.unstated := rfl
@[simp] theorem State.setProtection_pending (s : State) (v : Protection) : (s.setProtection v).pending = s.pending := rfl

/-! ## setReports -/

@[simp] theorem State.setReports_clock (s : State) (v : Reports) : (s.setReports v).clock = s.clock := rfl
@[simp] theorem State.setReports_port (s : State) (v : Reports) : (s.setReports v).port = s.port := rfl
@[simp] theorem State.setReports_orders (s : State) (v : Reports) : (s.setReports v).orders = s.orders := rfl
@[simp] theorem State.setReports_tracking (s : State) (v : Reports) : (s.setReports v).tracking = s.tracking := rfl
@[simp] theorem State.setReports_gauges (s : State) (v : Reports) : (s.setReports v).gauges = s.gauges := rfl
@[simp] theorem State.setReports_gaugeLinks (s : State) (v : Reports) : (s.setReports v).gaugeLinks = s.gaugeLinks := rfl
@[simp] theorem State.setReports_bus (s : State) (v : Reports) : (s.setReports v).bus = s.bus := rfl
@[simp] theorem State.setReports_channels (s : State) (v : Reports) : (s.setReports v).channels = s.channels := rfl
@[simp] theorem State.setReports_protection (s : State) (v : Reports) : (s.setReports v).protection = s.protection := rfl
@[simp] theorem State.setReports_reports (s : State) (v : Reports) : (s.setReports v).reports = v := rfl
@[simp] theorem State.setReports_status (s : State) (v : Reports) : (s.setReports v).status = s.status := rfl
@[simp] theorem State.setReports_unstated (s : State) (v : Reports) : (s.setReports v).unstated = s.unstated := rfl
@[simp] theorem State.setReports_pending (s : State) (v : Reports) : (s.setReports v).pending = s.pending := rfl

/-! ## setStatus -/

@[simp] theorem State.setStatus_clock (s : State) (v : Vector StatusRecord 110) : (s.setStatus v).clock = s.clock := rfl
@[simp] theorem State.setStatus_port (s : State) (v : Vector StatusRecord 110) : (s.setStatus v).port = s.port := rfl
@[simp] theorem State.setStatus_orders (s : State) (v : Vector StatusRecord 110) : (s.setStatus v).orders = s.orders := rfl
@[simp] theorem State.setStatus_tracking (s : State) (v : Vector StatusRecord 110) : (s.setStatus v).tracking = s.tracking := rfl
@[simp] theorem State.setStatus_gauges (s : State) (v : Vector StatusRecord 110) : (s.setStatus v).gauges = s.gauges := rfl
@[simp] theorem State.setStatus_gaugeLinks (s : State) (v : Vector StatusRecord 110) : (s.setStatus v).gaugeLinks = s.gaugeLinks := rfl
@[simp] theorem State.setStatus_bus (s : State) (v : Vector StatusRecord 110) : (s.setStatus v).bus = s.bus := rfl
@[simp] theorem State.setStatus_channels (s : State) (v : Vector StatusRecord 110) : (s.setStatus v).channels = s.channels := rfl
@[simp] theorem State.setStatus_protection (s : State) (v : Vector StatusRecord 110) : (s.setStatus v).protection = s.protection := rfl
@[simp] theorem State.setStatus_reports (s : State) (v : Vector StatusRecord 110) : (s.setStatus v).reports = s.reports := rfl
@[simp] theorem State.setStatus_status (s : State) (v : Vector StatusRecord 110) : (s.setStatus v).status = v := rfl
@[simp] theorem State.setStatus_unstated (s : State) (v : Vector StatusRecord 110) : (s.setStatus v).unstated = s.unstated := rfl
@[simp] theorem State.setStatus_pending (s : State) (v : Vector StatusRecord 110) : (s.setStatus v).pending = s.pending := rfl

/-! ## setUnstated -/

@[simp] theorem State.setUnstated_clock (s : State) (v : Nat) : (s.setUnstated v).clock = s.clock := rfl
@[simp] theorem State.setUnstated_port (s : State) (v : Nat) : (s.setUnstated v).port = s.port := rfl
@[simp] theorem State.setUnstated_orders (s : State) (v : Nat) : (s.setUnstated v).orders = s.orders := rfl
@[simp] theorem State.setUnstated_tracking (s : State) (v : Nat) : (s.setUnstated v).tracking = s.tracking := rfl
@[simp] theorem State.setUnstated_gauges (s : State) (v : Nat) : (s.setUnstated v).gauges = s.gauges := rfl
@[simp] theorem State.setUnstated_gaugeLinks (s : State) (v : Nat) : (s.setUnstated v).gaugeLinks = s.gaugeLinks := rfl
@[simp] theorem State.setUnstated_bus (s : State) (v : Nat) : (s.setUnstated v).bus = s.bus := rfl
@[simp] theorem State.setUnstated_channels (s : State) (v : Nat) : (s.setUnstated v).channels = s.channels := rfl
@[simp] theorem State.setUnstated_protection (s : State) (v : Nat) : (s.setUnstated v).protection = s.protection := rfl
@[simp] theorem State.setUnstated_reports (s : State) (v : Nat) : (s.setUnstated v).reports = s.reports := rfl
@[simp] theorem State.setUnstated_status (s : State) (v : Nat) : (s.setUnstated v).status = s.status := rfl
@[simp] theorem State.setUnstated_unstated (s : State) (v : Nat) : (s.setUnstated v).unstated = v := rfl
@[simp] theorem State.setUnstated_pending (s : State) (v : Nat) : (s.setUnstated v).pending = s.pending := rfl

/-! ## setPending -/

@[simp] theorem State.setPending_clock (s : State) (v : List Instr) : (s.setPending v).clock = s.clock := rfl
@[simp] theorem State.setPending_port (s : State) (v : List Instr) : (s.setPending v).port = s.port := rfl
@[simp] theorem State.setPending_orders (s : State) (v : List Instr) : (s.setPending v).orders = s.orders := rfl
@[simp] theorem State.setPending_tracking (s : State) (v : List Instr) : (s.setPending v).tracking = s.tracking := rfl
@[simp] theorem State.setPending_gauges (s : State) (v : List Instr) : (s.setPending v).gauges = s.gauges := rfl
@[simp] theorem State.setPending_gaugeLinks (s : State) (v : List Instr) : (s.setPending v).gaugeLinks = s.gaugeLinks := rfl
@[simp] theorem State.setPending_bus (s : State) (v : List Instr) : (s.setPending v).bus = s.bus := rfl
@[simp] theorem State.setPending_channels (s : State) (v : List Instr) : (s.setPending v).channels = s.channels := rfl
@[simp] theorem State.setPending_protection (s : State) (v : List Instr) : (s.setPending v).protection = s.protection := rfl
@[simp] theorem State.setPending_reports (s : State) (v : List Instr) : (s.setPending v).reports = s.reports := rfl
@[simp] theorem State.setPending_status (s : State) (v : List Instr) : (s.setPending v).status = s.status := rfl
@[simp] theorem State.setPending_unstated (s : State) (v : List Instr) : (s.setPending v).unstated = s.unstated := rfl
@[simp] theorem State.setPending_pending (s : State) (v : List Instr) : (s.setPending v).pending = v := rfl

/-! ## Numbered stores and status records -/

/-- A changed entry reads as changed. -/
theorem num_upd_self {α : Type} [Inhabited α] {n : Nat} (v : Vector α n) {k : Nat} (f : α → α) (h1 : 0 < k) (hn : k ≤ n) :
    num (upd v k f) k = f (num v k) := by
  simp [num, upd, h1, hn]

/-- Every other entry reads as before. -/
theorem num_upd_other {α : Type} [Inhabited α] {n : Nat} (v : Vector α n) {k i : Nat} (f : α → α) (h : i ≠ k) :
    num (upd v k f) i = num v i := by
  unfold num upd
  split
  · split
    · rw [Vector.getElem_set_ne _ _ (by omega)]
    · rfl
  · rfl

/-- The record of a slot that is rewritten has its count raised, changed or not. -/
theorem State.rewriteSlot_count (s : State) {slot : Nat} (h : slot < 110) :
    (num (s.rewriteSlot slot).status (slot + 1)).count = (num s.status (slot + 1)).count + 1#32 := by
  unfold State.rewriteSlot
  rw [State.setStatus_status, num_upd_self _ _ (by omega) (by omega)]
  rfl

end Sys2Proof.Machine
end

