-- ==== Sys2Proof/Laws/Frame.lean ====
section
/-! SUPPORT. What the operations of the Tracking Unit, the Gap Channels and the Protection Unit never change: one lemma per
operation, each an equation between the parts of the state that stay. -/

namespace Sys2Proof.Machine

/-- The part of a state that channels, latches and tracking actions leave alone: everything but the Tracking Unit, the
channels, burst ownership, group records, trip lines, attention bits, the holding queue and the status region. -/
def State.rest (s : State) : State :=
  { s with
    tracking := default
    channels := default
    bus := { s.bus with owner := none }
    protection := { s.protection with groups := default, standRun := 0#8, millRun := false }
    port := { s.port with attention := 0#6, messagesSent := 0 }
    reports := { s.reports with queue := [], lost := 0 }
    status := default }

/-- A fold of steps that keep the rest keeps the rest. -/
theorem State.rest_foldl {α : Type} (f : State → α → State) (hf : ∀ s a, (f s a).rest = s.rest) (l : List α) (s : State) :
    (l.foldl f s).rest = s.rest := by
  induction l generalizing s with
  | nil => rfl
  | cons a l ih => rw [List.foldl_cons, ih, hf]

/-! ## Updates -/

@[simp] theorem State.setTracking_rest (s : State) (v : Tracking) : (s.setTracking v).rest = s.rest := rfl
@[simp] theorem State.setChannels_rest (s : State) (v : Vector Channel 8) : (s.setChannels v).rest = s.rest := rfl
@[simp] theorem State.setStatus_rest (s : State) (v : Vector StatusRecord 110) : (s.setStatus v).rest = s.rest := rfl
@[simp] theorem State.onChannel_rest (s : State) (k : Nat) (f : Channel → Channel) : (s.onChannel k f).rest = s.rest := rfl
@[simp] theorem State.onStation_rest (s : State) (j : Nat) (f : Station → Station) : (s.onStation j f).rest = s.rest := rfl
@[simp] theorem State.onCoil_rest (s : State) (c : Word) (f : Coil → Coil) : (s.onCoil c f).rest = s.rest := rfl
@[simp] theorem State.onSegment_rest (s : State) (k : SegKey) (f : Segment → Segment) : (s.onSegment k f).rest = s.rest := rfl
@[simp] theorem State.onGroup_rest (s : State) (g : Nat) (f : Group → Group) : (s.onGroup g f).rest = s.rest := rfl
@[simp] theorem State.raise_rest (s : State) (a : Attention) : (s.raise a).rest = s.rest := rfl
@[simp] theorem State.publish_rest (s : State) (n : Nat) : (s.publish n).rest = s.rest := rfl
@[simp] theorem State.rewriteSlot_rest (s : State) (n : Nat) : (s.rewriteSlot n).rest = s.rest := rfl
@[simp] theorem State.rewriteGroup_rest (s : State) (g : Nat) : (s.rewriteGroup g).rest = s.rest := rfl
@[simp] theorem State.publishAll_rest (s : State) : s.publishAll.rest = s.rest := rfl
@[simp] theorem State.setLines_rest (s : State) : s.setLines.rest = s.rest := rfl
@[simp] theorem State.settle_rest (s : State) : s.settle.rest = s.rest := rfl

@[simp] theorem State.pushEvent_rest (s : State) (e : EventRecord) : (s.pushEvent e).rest = s.rest := by
  unfold State.pushEvent
  dsimp only
  split <;> rfl

/-! ## Gap Channels -/

@[simp] theorem State.endOwnership_rest (s : State) (k : Nat) : (s.endOwnership k).rest = s.rest := by
  unfold State.endOwnership
  split <;> rfl

@[simp] theorem State.clampBegins_rest (s : State) (k : Nat) (x : Int) (n : Nat) : (s.clampBegins k x n).rest = s.rest := by
  simp [State.clampBegins]

@[simp] theorem State.recompute_rest (s : State) (k : Nat) : (s.recompute k).rest = s.rest := by
  unfold State.recompute
  dsimp only
  split
  · split <;> simp
  · rfl

@[simp] theorem State.fireWaiting_rest (s : State) (k : Nat) (e : PlanEntry) : (s.fireWaiting k e).rest = s.rest := by
  unfold State.fireWaiting
  split <;> rfl

@[simp] theorem State.fireNow_rest (s : State) (k : Nat) (e : PlanEntry) : (s.fireNow k e).1.rest = s.rest := by
  unfold State.fireNow
  split
  · rfl
  · split <;> rfl

@[simp] theorem State.removePlans_rest (s : State) (p : PlanEntry → Bool) : (s.removePlans p).rest = s.rest := rfl

@[simp] theorem State.setFeedForward_rest (s : State) (k : Nat) (key : SegKey) : (s.setFeedForward k key).rest = s.rest := by
  unfold State.setFeedForward
  dsimp only
  split <;> simp

@[simp] theorem State.feedback_rest (s : State) (g k : Nat) (key : SegKey) : (s.feedback g k key).rest = s.rest := by
  unfold State.feedback
  dsimp only
  split
  · split <;> simp
  · rfl

@[simp] theorem State.recordTarget_rest (s : State) (k : Nat) (key : SegKey) : (s.recordTarget k key).rest = s.rest := by
  unfold State.recordTarget
  split <;> rfl

@[simp] theorem State.biteEntry_rest (s : State) (k : Nat) (key : SegKey) : (s.biteEntry k key).rest = s.rest := by
  unfold State.biteEntry
  dsimp only
  split <;> simp

@[simp] theorem State.sendRampStep_rest (s : State) (k : Nat) (r : Ramp) : (s.sendRampStep k r).rest = s.rest := by
  unfold State.sendRampStep
  dsimp only
  split <;> simp

@[simp] theorem State.sendStep_rest (s : State) (k : Nat) : (s.sendStep k).rest = s.rest := by
  unfold State.sendStep State.sendCorrection
  split <;> simp

@[simp] theorem State.stall_rest (s : State) (k gap : Nat) : (s.stall k gap).rest = s.rest := by
  simp [State.stall]

@[simp] theorem State.recover_rest (s : State) (k gap : Nat) : (s.recover k gap).rest = s.rest := by
  simp [State.recover]

@[simp] theorem State.channelReply_rest (s : State) (k : Nat) (f : LastReply) : (s.channelReply k f).rest = s.rest := by
  unfold State.channelReply
  split
  · split
    · rfl
    · dsimp only
      split <;> simp
  · split <;> simp
  · split <;> simp
  · rfl
  · rfl
  · rfl

@[simp] theorem State.strike_rest (s : State) (k : Nat) : (s.strike k).rest = s.rest := by
  unfold State.strike
  split <;> simp

@[simp] theorem State.unstrike_rest (s : State) (k : Nat) : (s.unstrike k).rest = s.rest := by
  unfold State.unstrike
  split <;> rfl

/-! ## Protection Unit -/

@[simp] theorem State.strikeAll_rest (s : State) (l : List Nat) : (s.strikeAll l).rest = s.rest :=
  State.rest_foldl _ State.strike_rest l s

@[simp] theorem State.latch_rest (s : State) (g x : Nat) (l : List Nat) : (s.latch g x l).rest = s.rest := by
  simp [State.latch]

@[simp] theorem State.warn_rest (s : State) (x g : Nat) : (s.warn x g).rest = s.rest := by simp [State.warn]

@[simp] theorem State.assertInto_rest (s : State) (x g : Nat) : (s.assertInto x g).rest = s.rest := by
  unfold State.assertInto
  split <;> simp

@[simp] theorem State.judge_rest (s : State) (x : Nat) : (s.judge x).rest = s.rest := by
  unfold State.judge
  split
  · split <;> simp
  · rfl

@[simp] theorem State.pulse_rest (s : State) (x : Nat) : (s.pulse x).rest = s.rest := State.judge_rest s x

/-- A level source changes its own state and what the judging changes. -/
theorem State.setLevel_rest (s : State) (x : Nat) (b : Bool) :
    (s.setLevel x b).rest = if b = s.asserted x then s.rest else (s.setSource x b).rest := by
  unfold State.setLevel
  split
  · rfl
  · split
    · next hb => rw [State.judge_rest, hb]
    · next hb => simp [Bool.eq_false_iff.mpr hb]

@[simp] theorem State.clearAndResample_rest (s : State) (g : Nat) : (s.clearAndResample g).rest = s.rest := by
  unfold State.clearAndResample
  dsimp only
  split <;> simp

@[simp] theorem State.unstrikeReleased_rest (s : State) (x : BitVec 8) : (s.unstrikeReleased x).rest = s.rest :=
  State.rest_foldl _ State.unstrike_rest _ s

@[simp] theorem State.clearance_rest (s : State) (g : Nat) : (s.clearance g).rest = s.rest := by
  simp [State.clearance]

@[simp] theorem State.clearClass_rest (s : State) (c : Nat) : (s.clearClass c).rest = s.rest := by
  unfold State.clearClass
  rw [State.unstrikeReleased_rest]
  exact State.rest_foldl _ State.clearAndResample_rest _ s

@[simp] theorem State.adoptGroup_rest (s : State) (g : Nat) : (s.adoptGroup g).rest = s.rest := rfl

@[simp] theorem State.resample_rest (s : State) : s.resample.rest = s.rest := by
  unfold State.resample
  refine State.rest_foldl _ (fun t x => ?_) _ s
  unfold State.resampleSource
  split <;> simp

@[simp] theorem State.adoptGroups_rest (s : State) : s.adoptGroups.rest = s.rest := by
  unfold State.adoptGroups
  rw [State.resample_rest]
  exact State.rest_foldl _ State.adoptGroup_rest _ s

/-! ## Tracking Unit -/

@[simp] theorem State.announce_rest (s : State) (a : Announcement) : (s.announce a).rest = s.rest := by
  cases a with
  | gaugePassage g k key kind =>
    simp only [State.announce]
    split <;> simp
  | biteEntry k key => simp [State.announce]
  | standPassage k key => simp [State.announce]
  | removeSegment key => simp [State.announce]
  | removeCoil c => simp [State.announce]
  | mismatchPulse => simp [State.announce]

@[simp] theorem State.deliver_rest (s : State) (l : List Announcement) : (s.deliver l).rest = s.rest :=
  State.rest_foldl _ State.announce_rest l s

@[simp] theorem State.endAwait_rest (s : State) (j : Nat) : (s.endAwait j).rest = s.rest := by
  unfold State.endAwait
  split
  · split <;> simp
  all_goals rfl

@[simp] theorem State.endAwaits_rest (s : State) : s.endAwaits.rest = s.rest :=
  State.rest_foldl _ State.endAwait_rest _ s

@[simp] theorem State.moveFront_rest (s : State) (j n : Nat) (l : List Segment) : (s.moveFront j n l).rest = s.rest := rfl

@[simp] theorem State.enterMill_rest (s : State) (j : Nat) (l : List Segment) : (s.enterMill j l).rest = s.rest := by
  unfold State.enterMill
  split
  · exact State.rest_foldl _ (fun t g => State.onCoil_rest t g.key.coil Coil.enter) l s
  · rfl

@[simp] theorem State.trackEvent_rest (s : State) (j : Nat) (k : TrackKind) (c : Word) (n : Nat) :
    (s.trackEvent j k c n).rest = s.rest := by simp [State.trackEvent]

@[simp] theorem Act.tell_s (a : Act) (l : List Announcement) : (a.tell l).s = a.s := rfl
@[simp] theorem Act.step_s (a : Act) (f : State → State) : (a.step f).s = f a.s := rfl

/-- A fold of action steps that keep the rest keeps the rest. -/
theorem Act.rest_foldl {α : Type} (f : Act → α → Act) (hf : ∀ a x, (f a x).s.rest = a.s.rest) (l : List α) (a : Act) :
    (l.foldl f a).s.rest = a.s.rest := by
  induction l generalizing a with
  | nil => rfl
  | cons x l ih => rw [List.foldl_cons, ih, hf]

@[simp] theorem Act.flagAll_rest (a : Act) (l : List Segment) : (a.flagAll l).s.rest = a.s.rest := by
  simp only [Act.flagAll, Act.tell_s, Act.step_s]
  exact State.rest_foldl _ (fun t g => State.onCoil_rest t g.key.coil Coil.shorten) l a.s

@[simp] theorem Act.frontRule_rest (a : Act) (j : Nat) : (a.frontRule j).s.rest = a.s.rest := by
  unfold Act.frontRule
  dsimp only
  split
  · rfl
  · simp

@[simp] theorem Act.enterBite_rest (a : Act) (j : Nat) (key : SegKey) (n : Nat) : (a.enterBite j key n).s.rest = a.s.rest := rfl

@[simp] theorem Act.takeAwaited_rest (a : Act) (j : Nat) : (a.takeAwaited j).s.rest = a.s.rest := by
  unfold Act.takeAwaited
  split
  · split
    · simp
    · rfl
  · rfl

@[simp] theorem Act.sweep_rest (a : Act) : a.sweep.s.rest = a.s.rest := by
  unfold Act.sweep
  exact Act.rest_foldl _ (fun b j => by simp) _ a

@[simp] theorem Act.passBite_rest (a : Act) (j : Nat) (key : SegKey) (k : PassageKind) :
    (a.passBite j key k).s.rest = a.s.rest := by
  simp [Act.passBite]

@[simp] theorem Act.continueAfter_rest (a : Act) (j : Nat) (c : Word) (n : Nat) :
    (a.continueAfter j c n).s.rest = a.s.rest := by
  unfold Act.continueAfter
  split
  · split
    · split <;> simp
    · simp
  · simp

@[simp] theorem Act.mismatch_rest (a : Act) (j : Nat) (k : TrackKind) (c : Word) (n : Nat) :
    (a.mismatch j k c n).s.rest = a.s.rest := by simp [Act.mismatch]

@[simp] theorem Act.passageLoop_rest (n : Nat) (a : Act) (j : Nat) : (Act.passageLoop n a j).s.rest = a.s.rest := by
  induction n generalizing a with
  | zero => rfl
  | succ n ih =>
    unfold Act.passageLoop
    split
    · split
      · rw [ih]; simp
      · rfl
    all_goals rfl

@[simp] theorem Act.drain_rest (a : Act) (j d : Nat) (c : Word) (n : Nat) : (a.drain j d c n).s.rest = a.s.rest := by
  unfold Act.drain
  split <;> simp

@[simp] theorem Act.delta_rest (d : Nat) (a : Act) (j : Nat) : (Act.delta d a j).s.rest = a.s.rest := by
  unfold Act.delta
  split
  · rfl
  · split <;> simp

@[simp] theorem Act.loadOn_rest (a : Act) (j : Nat) : (a.loadOn j).s.rest = a.s.rest := by
  unfold Act.loadOn
  split
  · split <;> simp
  all_goals rfl

@[simp] theorem Act.earlyTail_rest (a : Act) (j : Nat) (key : SegKey) : (a.earlyTail j key).s.rest = a.s.rest := by
  simp [Act.earlyTail]

@[simp] theorem Act.loadOff_rest (a : Act) (j : Nat) : (a.loadOff j).s.rest = a.s.rest := by
  unfold Act.loadOff
  split <;> simp

@[simp] theorem Act.loadEvent_rest (a : Act) (j : Nat) (b : Bool) : (a.loadEvent j b).s.rest = a.s.rest := by
  unfold Act.loadEvent
  dsimp only
  split
  · split <;> simp
  · simp

/-- An action keeps the rest if its steps do. -/
theorem State.action_rest (s : State) (f : Act → Act) (hf : ∀ a, (f a).s.rest = a.s.rest) : (s.action f).rest = s.rest := by
  simp [State.action, hf]

@[simp] theorem State.loadEvent_rest (s : State) (j : Nat) (b : Bool) : (s.loadEvent j b).rest = s.rest :=
  State.action_rest s _ (fun a => Act.loadEvent_rest a j b)

@[simp] theorem Act.replyDelta_rest (a : Act) (k d : Nat) : (a.replyDelta k d).s.rest = a.s.rest :=
  Act.rest_foldl _ (Act.delta_rest d) _ a

@[simp] theorem State.trackReply_rest (s : State) (k : Nat) (d : Option Nat) (b : Bool) : (s.trackReply k d b).rest = s.rest := by
  refine State.action_rest s _ (fun a => ?_)
  dsimp only
  split
  · split
    · split <;> simp
    · split <;> simp
  · split <;> simp

@[simp] theorem State.mapStations_rest (s : State) (f : Station → Station) : (s.mapStations f).rest = s.rest := rfl

@[simp] theorem State.omitStation_rest (s : State) (j : Nat) : (s.omitStation j).rest = s.rest :=
  State.action_rest s _ (fun a => by simp)

@[simp] theorem State.restoreStation_rest (s : State) (j : Nat) : (s.restoreStation j).rest = s.rest := rfl

@[simp] theorem State.advanceStation_rest (s : State) (j : Nat) (key : SegKey) : (s.advanceStation j key).rest = s.rest :=
  State.action_rest s _ (fun a => by simp)

@[simp] theorem State.announceCoil_rest (s : State) (p : Nat) (c : Word) (n : Nat) (l t : List Nat) :
    (s.announceCoil p c n l t).rest = s.rest := rfl

@[simp] theorem State.freeCoil_rest (s : State) (c : Word) : (s.freeCoil c).rest = s.rest := rfl
@[simp] theorem State.freeSegments_rest (s : State) (c : Word) : (s.freeSegments c).rest = s.rest := rfl
@[simp] theorem State.withdrawCoil_rest (s : State) (c : Word) : (s.withdrawCoil c).rest = s.rest := rfl

@[simp] theorem State.scrapCoil_rest (s : State) (c : Word) : (s.scrapCoil c).rest = s.rest :=
  State.action_rest s _ (fun a => by simp)

@[simp] theorem State.segmentWritten_rest (s : State) (key : SegKey) : (s.segmentWritten key).rest = s.rest := rfl
@[simp] theorem State.coilDoneWritten_rest (s : State) (c : Word) : (s.coilDoneWritten c).rest = s.rest := rfl
@[simp] theorem State.countNoRoom_rest (s : State) : s.countNoRoom.rest = s.rest := rfl

/-! ## What the rest holds -/

/-- States with the same rest agree on everything that the rest holds. -/
theorem State.rest_parts {s t : State} (h : t.rest = s.rest) :
    t.clock = s.clock ∧ t.orders = s.orders ∧ t.gauges = s.gauges ∧ t.gaugeLinks = s.gaugeLinks ∧
      t.port.mem = s.port.mem ∧ t.port.intake = s.port.intake ∧ t.port.enables = s.port.enables ∧
      t.bus.drives = s.bus.drives ∧ t.bus.slot = s.bus.slot ∧ t.bus.slotTimer = s.bus.slotTimer ∧
      t.bus.firstLength = s.bus.firstLength ∧
      t.protection.links = s.protection.links ∧ t.protection.sources = s.protection.sources ∧
      t.reports.lent = s.reports.lent ∧ t.reports.wordCount = s.reports.wordCount ∧
      t.reports.recordCount = s.reports.recordCount ∧ t.reports.hold = s.reports.hold ∧
      t.unstated = s.unstated ∧ t.pending = s.pending := by
  refine ⟨congrArg (·.clock) h, congrArg (·.orders) h, congrArg (·.gauges) h, congrArg (·.gaugeLinks) h,
    congrArg (·.port.mem) h, congrArg (·.port.intake) h, congrArg (·.port.enables) h, congrArg (·.bus.drives) h,
    congrArg (·.bus.slot) h, congrArg (·.bus.slotTimer) h, congrArg (·.bus.firstLength) h, congrArg (·.protection.links) h,
    congrArg (·.protection.sources) h, congrArg (·.reports.lent) h, congrArg (·.reports.wordCount) h,
    congrArg (·.reports.recordCount) h, congrArg (·.reports.hold) h, congrArg (·.unstated) h, congrArg (·.pending) h⟩

/-- The memory of a state is that of its rest. -/
theorem State.mem_of_rest {s t : State} (h : t.rest = s.rest) : t.port.mem = s.port.mem := congrArg (·.port.mem) h

/-! ## The first slot (R15, R80) -/

/-- A first slot that waits touches the slot timer and its own length alone. -/
@[simp] theorem State.awaitFirstSlot_bus (s : State) :
    s.awaitFirstSlot.bus = { s.bus with slotTimer := some s.now, firstLength := some s.slotLength } := rfl

/-- The first slot has the slot length in force when it came to wait. -/
@[simp] theorem State.awaitFirstSlot_nextSlotLength (s : State) : s.awaitFirstSlot.nextSlotLength = s.slotLength := rfl

/-- A slot that is not a first slot that waits has the working slot length. -/
theorem State.nextSlotLength_working {s : State} (h : s.bus.firstLength = none) : s.nextSlotLength = s.slotLength := by
  simp [State.nextSlotLength, h]

end Sys2Proof.Machine
end

