-- ==== Sys2Proof/Laws/Memory.lean ====
section
/-! SUPPORT. Exchange memory: a write keeps the canonical form, a read after a write, and the same for words. -/

namespace Sys2Proof.Machine

theorem Memory.above_mono {a b : Nat} {m : Memory} (h : a ≤ b) (hm : Memory.above b m = true) :
    Memory.above a m = true := by
  cases m with
  | nil => rfl
  | cons x rest =>
    obtain ⟨c, v⟩ := x
    simp only [Memory.above, decide_eq_true_eq] at hm ⊢
    omega

theorem Memory.wf_cons {a : Nat} {v : Byte} {rest : Memory} :
    Memory.wf ((a, v) :: rest) = true ↔ v ≠ 0#8 ∧ Memory.above a rest = true ∧ Memory.wf rest = true := by
  simp [Memory.wf, Bool.and_eq_true, and_assoc]

/-- Below everything listed, every byte reads 0. -/
theorem Memory.read_below {a : Nat} {m : Memory} (h : Memory.above a m = true) : Memory.read m a = 0#8 := by
  cases m with
  | nil => rfl
  | cons x rest =>
    obtain ⟨c, v⟩ := x
    simp only [Memory.above, decide_eq_true_eq] at h
    simp [Memory.read, h]

theorem Memory.write_above {m : Memory} {b a : Nat} {v : Byte} (hm : Memory.above b m = true) (hba : b < a)
    (hwf : Memory.wf m = true) : Memory.above b (Memory.write m a v) = true := by
  cases m with
  | nil =>
    simp only [Memory.write]
    split
    · rfl
    · simp [Memory.above, hba]
  | cons x rest =>
    obtain ⟨c, w⟩ := x
    rw [Memory.wf_cons] at hwf
    simp only [Memory.above, decide_eq_true_eq] at hm
    simp only [Memory.write]
    split
    · split
      · simp [Memory.above, hm]
      · simp [Memory.above, hba]
    · split
      · split
        · exact Memory.above_mono (by omega) hwf.2.1
        · simp [Memory.above, hba]
      · simp [Memory.above, hm]

/-- A write keeps the canonical form. -/
theorem Memory.write_wf {m : Memory} (a : Nat) (v : Byte) (h : Memory.wf m = true) :
    Memory.wf (Memory.write m a v) = true := by
  induction m with
  | nil =>
    simp only [Memory.write]
    split
    · rfl
    · next hv => simp [Memory.wf, Memory.above, hv]
  | cons x rest ih =>
    obtain ⟨c, w⟩ := x
    have hc := Memory.wf_cons.mp h
    simp only [Memory.write]
    split
    · next hac =>
      split
      · exact h
      · next hv => exact Memory.wf_cons.mpr ⟨hv, by simpa [Memory.above] using hac, h⟩
    · split
      · next hac =>
        split
        · exact hc.2.2
        · next hv => exact Memory.wf_cons.mpr ⟨hv, by rw [hac]; exact hc.2.1, hc.2.2⟩
      · next h1 h2 =>
        exact Memory.wf_cons.mpr ⟨hc.1, Memory.write_above hc.2.1 (by omega) hc.2.2, ih hc.2.2⟩

/-- The byte written reads as written. -/
theorem Memory.read_write_same {m : Memory} (a : Nat) (v : Byte) (h : Memory.wf m = true) :
    Memory.read (Memory.write m a v) a = v := by
  induction m with
  | nil =>
    simp only [Memory.write]
    split
    · next hv => simp [Memory.read, hv]
    · simp [Memory.read]
  | cons x rest ih =>
    obtain ⟨c, w⟩ := x
    have hc := Memory.wf_cons.mp h
    simp only [Memory.write]
    split
    · next hac =>
      split
      · next hv => simp [Memory.read, hac, hv]
      · simp [Memory.read]
    · split
      · next hac =>
        split
        · next hv => rw [hac, Memory.read_below hc.2.1, hv]
        · simp [Memory.read]
      · next h1 h2 => simp [Memory.read, h1, h2, ih hc.2.2]

/-- Every other byte reads as before. -/
theorem Memory.read_write_other {m : Memory} {a b : Nat} (v : Byte) (hne : b ≠ a) (h : Memory.wf m = true) :
    Memory.read (Memory.write m a v) b = Memory.read m b := by
  induction m with
  | nil =>
    simp only [Memory.write]
    split
    · rfl
    · simp [Memory.read, hne]
  | cons x rest ih =>
    obtain ⟨c, w⟩ := x
    have hc := Memory.wf_cons.mp h
    simp only [Memory.write]
    split
    · next hac =>
      split
      · rfl
      · by_cases hb : b < a
        · have : b < c := by omega
          simp [Memory.read, hb, this]
        · simp [Memory.read, hb, hne]
    · split
      · next hac =>
        subst hac
        split
        · by_cases hb : b < a
          · rw [Memory.read_below (Memory.above_mono (by omega) hc.2.1)]
            simp [Memory.read, hb]
          · simp [Memory.read, hb, hne]
        · by_cases hb : b < a
          · simp [Memory.read, hb]
          · simp [Memory.read, hb, hne]
      · next h1 h2 =>
        by_cases hb : b < c
        · simp [Memory.read, hb]
        · by_cases hbc : b = c
          · simp [Memory.read, hbc]
          · simp [Memory.read, hb, hbc, ih hc.2.2]

/-! ## Words -/

theorem wordOf_byteOf (w : Word) : wordOf (byteOf w 0) (byteOf w 1) (byteOf w 2) (byteOf w 3) = w := by
  unfold wordOf byteOf
  ext i hi
  simp only [BitVec.getElem_append, BitVec.getElem_extractLsb']
  split
  · simp_all [BitVec.getLsbD_eq_getElem]
  · split
    · next h1 h2 =>
      have : 8 * 1 + (i - 8) = i := by omega
      simp [this, BitVec.getLsbD_eq_getElem hi]
    · split
      · next h1 h2 h3 =>
        have : 8 * 2 + (i - 8 - 8) = i := by omega
        simp [this, BitVec.getLsbD_eq_getElem hi]
      · next h1 h2 h3 =>
        have : 8 * 3 + (i - 8 - 8 - 8) = i := by omega
        simp [this, BitVec.getLsbD_eq_getElem hi]

theorem Memory.writeWord_wf {m : Memory} (w : Nat) (v : Word) (h : Memory.wf m = true) :
    Memory.wf (Memory.writeWord m w v) = true := by
  unfold Memory.writeWord
  exact Memory.write_wf _ _ (Memory.write_wf _ _ (Memory.write_wf _ _ (Memory.write_wf _ _ h)))

theorem Memory.writeWords_wf {m : Memory} (w : Nat) (l : List Word) (h : Memory.wf m = true) :
    Memory.wf (Memory.writeWords m w l) = true := by
  induction l generalizing m w with
  | nil => exact h
  | cons x xs ih => exact ih _ (Memory.writeWord_wf _ _ h)

/-- A byte outside the word written reads as before. -/
theorem Memory.read_writeWord_other {m : Memory} {w a : Nat} (v : Word) (hne : a < 4 * w ∨ 4 * w + 3 < a)
    (h : Memory.wf m = true) : Memory.read (Memory.writeWord m w v) a = Memory.read m a := by
  unfold Memory.writeWord
  have h0 := Memory.write_wf (4 * w) (byteOf v 0) h
  have h1 := Memory.write_wf (4 * w + 1) (byteOf v 1) h0
  have h2 := Memory.write_wf (4 * w + 2) (byteOf v 2) h1
  rw [Memory.read_write_other _ (by omega) h2, Memory.read_write_other _ (by omega) h1,
    Memory.read_write_other _ (by omega) h0, Memory.read_write_other _ (by omega) h]

/-- The word written reads as written. -/
theorem Memory.readWord_writeWord_same {m : Memory} (w : Nat) (v : Word) (h : Memory.wf m = true) :
    Memory.readWord (Memory.writeWord m w v) w = v := by
  have h0 := Memory.write_wf (4 * w) (byteOf v 0) h
  have h1 := Memory.write_wf (4 * w + 1) (byteOf v 1) h0
  have h2 := Memory.write_wf (4 * w + 2) (byteOf v 2) h1
  unfold Memory.readWord Memory.writeWord
  rw [Memory.read_write_same _ _ h2, Memory.read_write_other _ (by omega) h2, Memory.read_write_other _ (by omega) h2,
    Memory.read_write_other _ (by omega) h2, Memory.read_write_same _ _ h1, Memory.read_write_other _ (by omega) h1,
    Memory.read_write_other _ (by omega) h1, Memory.read_write_same _ _ h0, Memory.read_write_other _ (by omega) h0,
    Memory.read_write_same _ _ h]
  exact wordOf_byteOf v

/-- Every other word reads as before. -/
theorem Memory.readWord_writeWord_other {m : Memory} {w x : Nat} (v : Word) (hne : x ≠ w) (h : Memory.wf m = true) :
    Memory.readWord (Memory.writeWord m w v) x = Memory.readWord m x := by
  unfold Memory.readWord
  rw [Memory.read_writeWord_other v (by omega) h, Memory.read_writeWord_other v (by omega) h,
    Memory.read_writeWord_other v (by omega) h, Memory.read_writeWord_other v (by omega) h]

end Sys2Proof.Machine
end

