-- ==== Sys2Proof/Laws/Pages.lean ====
section
/-! SUPPORT. What the end of a page, the completion of an order and the frame of every order do, said once. -/

namespace Sys2Proof.Machine

/-! ## What the end of a step leaves -/

@[simp] theorem State.settle_clock (s : State) : s.settle.clock = s.clock := rfl
@[simp] theorem State.settle_port (s : State) : s.settle.port = s.port := rfl
@[simp] theorem State.settle_orders (s : State) : s.settle.orders = s.orders := rfl
@[simp] theorem State.settle_tracking (s : State) : s.settle.tracking = s.tracking := rfl
@[simp] theorem State.settle_gauges (s : State) : s.settle.gauges = s.gauges := rfl
@[simp] theorem State.settle_gaugeLinks (s : State) : s.settle.gaugeLinks = s.gaugeLinks := rfl
@[simp] theorem State.settle_bus (s : State) : s.settle.bus = s.bus := rfl
@[simp] theorem State.settle_channels (s : State) : s.settle.channels = s.channels := rfl
@[simp] theorem State.settle_links (s : State) : s.settle.protection.links = s.protection.links := rfl
@[simp] theorem State.settle_sources (s : State) : s.settle.protection.sources = s.protection.sources := rfl
@[simp] theorem State.settle_groups (s : State) : s.settle.protection.groups = s.protection.groups := rfl
@[simp] theorem State.settle_reports (s : State) : s.settle.reports = s.reports := rfl
@[simp] theorem State.settle_unstated (s : State) : s.settle.unstated = s.unstated := rfl
@[simp] theorem State.settle_pending (s : State) : s.settle.pending = s.pending := rfl

/-- The end of a step leaves every record showing the blocks (R154). -/
theorem State.settle_recordsShow (s : State) : s.settle.recordsShow := by
  show (Vector.zipWith Status.refresh s.setLines.status (Status.bodies s.setLines.toBlocks)).map StatusRecord.body =
    Status.bodies s.setLines.toBlocks
  ext i hi : 1
  simp only [Vector.getElem_map, Vector.getElem_zipWith, Status.refresh, Status.rewrite]
  split
  · assumption
  · rfl

/-! ## The end of a page (R161) -/

@[simp] theorem State.endPage_clock (s : State) (p : Nat) (r : ResultCode) (i : Nat) : (s.endPage p r i).clock = s.clock := rfl
@[simp] theorem State.endPage_tracking (s : State) (p : Nat) (r : ResultCode) (i : Nat) :
    (s.endPage p r i).tracking = s.tracking := rfl
@[simp] theorem State.endPage_gauges (s : State) (p : Nat) (r : ResultCode) (i : Nat) : (s.endPage p r i).gauges = s.gauges := rfl
@[simp] theorem State.endPage_gaugeLinks (s : State) (p : Nat) (r : ResultCode) (i : Nat) :
    (s.endPage p r i).gaugeLinks = s.gaugeLinks := rfl
@[simp] theorem State.endPage_bus (s : State) (p : Nat) (r : ResultCode) (i : Nat) : (s.endPage p r i).bus = s.bus := rfl
@[simp] theorem State.endPage_channels (s : State) (p : Nat) (r : ResultCode) (i : Nat) :
    (s.endPage p r i).channels = s.channels := rfl
@[simp] theorem State.endPage_protection (s : State) (p : Nat) (r : ResultCode) (i : Nat) :
    (s.endPage p r i).protection = s.protection := rfl
@[simp] theorem State.endPage_reports (s : State) (p : Nat) (r : ResultCode) (i : Nat) : (s.endPage p r i).reports = s.reports := rfl
@[simp] theorem State.endPage_unstated (s : State) (p : Nat) (r : ResultCode) (i : Nat) :
    (s.endPage p r i).unstated = s.unstated := rfl
@[simp] theorem State.endPage_pending (s : State) (p : Nat) (r : ResultCode) (i : Nat) : (s.endPage p r i).pending = s.pending := rfl
@[simp] theorem State.endPage_orders (s : State) (p : Nat) (r : ResultCode) (i : Nat) :
    (s.endPage p r i).orders = { s.orders with taken := none } := rfl
@[simp] theorem State.endPage_mem (s : State) (p : Nat) (r : ResultCode) (i : Nat) :
    (s.endPage p r i).port.mem =
      Memory.writeWord s.port.mem (headerAddress p)
        (header (if r = .ok then .done else .failed) r (s.pageWordCount p) i) := rfl

/-- The attention bits after an event. -/
theorem State.raise_attention (s : State) (a : Attention) : s.attentionRaised (s.raise a) a := by
  constructor
  · intro b
    have h : ∀ (x : BitVec 6) (a b : Attention), (setBit x a.bit true).getLsbD b.bit = (x.getLsbD b.bit || b == a) := by
      intro x a b
      cases a <;> cases b <;>
        simp [setBit, Attention.bit, BitVec.twoPow_eq]
    exact h s.port.attention a b
  · show (if s.sendsMessage a = true then s.port.messagesSent + 1 else s.port.messagesSent) = _
    have e : s.sendsMessage a =
        (!s.attentionIs a && s.port.enables.getLsbD a.bit && s.port.messagesEnabled) := rfl
    rw [e]
    cases s.attentionIs a <;> cases s.port.enables.getLsbD a.bit <;> cases s.port.messagesEnabled <;> simp

/-- Two states with the same page memory read the same words. -/
theorem State.badLength_congr {s u : State} (h : u.port.mem = s.port.mem) (t : Taken) : u.badLength t = s.badLength t := by
  unfold State.badLength State.pageWordCount State.headerOf State.orderWord State.bodyWord
  rw [h]

/-- Two states with the same page memory judge an order word alike. -/
theorem State.badOrder_congr {s u : State} (h : u.port.mem = s.port.mem) (t : Taken) : u.badOrder t = s.badOrder t := by
  unfold State.badOrder State.orderWord State.bodyWord
  rw [h]

/-- The end of a page sets ORDER and no other bit. -/
theorem State.endPage_attention (u : State) (p : Nat) (r : ResultCode) (i : Nat) :
    u.attentionRaised (u.endPage p r i).settle .order := by
  have h := State.raise_attention
      ((((u.writeHeader p (header (if r = .ok then .done else .failed) r (u.pageWordCount p) i)).setTaken none).setPort
        (Port.countOutcome (r == .ok)
          ((u.writeHeader p (header (if r = .ok then .done else .failed) r (u.pageWordCount p) i)).setTaken none).port)).publish
        Status.portSlot) .order
  cases r <;> exact h

/-- What a page's end leaves, seen from a state with the same memory and page counters. -/
theorem State.endPage_ended {s u : State} (hw : s.memoryCanonical) (hm : u.port.mem = s.port.mem)
    (hd : u.port.pagesDone = s.port.pagesDone) (hf : u.port.pagesFailed = s.port.pagesFailed) (p : Nat) (r : ResultCode)
    (i : Nat) : s.pageEnded (u.endPage p r i).settle p r i := by
  have hc : u.pageWordCount p = s.pageWordCount p := by simp only [State.pageWordCount, State.headerOf, hm]
  refine ⟨rfl, ?_, ?_, ?_, ?_⟩
  · show Memory.readWord (Memory.writeWord u.port.mem (headerAddress p) _) (headerAddress p) = _
    rw [hm, Memory.readWord_writeWord_same _ _ hw, hc]
  · show (Port.countOutcome (r == .ok) u.port).pagesDone = _
    cases r <;> simp [Port.countOutcome, hd]
  · show (Port.countOutcome (r == .ok) u.port).pagesFailed = _
    cases r <;> simp [Port.countOutcome, hf]
  · rw [(State.endPage_attention u p r i).1 .order]
    simp

/-- A page's end touches one header word. -/
theorem State.endPage_otherBytes {s u : State} (hw : s.memoryCanonical) (hm : u.port.mem = s.port.mem) (p : Nat)
    (r : ResultCode) (i : Nat) : s.otherBytesKept (u.endPage p r i).settle (headerAddress p) := by
  intro a ha
  show Memory.read (Memory.writeWord u.port.mem (headerAddress p) _) a = _
  rw [hm, Memory.read_writeWord_other _ ha hw]

/-! ## The completion of an order (R160, R161) -/

/-- The parts of the Exchange Port that an order's effect leaves alone. -/
def Port.settled (p : Port) : Port := { p with attention := 0#6, messagesSent := 0 }

/-- What ports agree on that agree but for attention. -/
theorem Port.settled_parts {p q : Port} (h : p.settled = q.settled) :
    p.mem = q.mem ∧ p.pagesDone = q.pagesDone ∧ p.pagesFailed = q.pagesFailed ∧ p.enables = q.enables ∧ p.intake = q.intake ∧
      p.dropped = q.dropped ∧ p.lastDropped = q.lastDropped ∧ p.postingsAccepted = q.postingsAccepted ∧
      p.postingsRefused = q.postingsRefused ∧ p.lendingsAccepted = q.lendingsAccepted ∧
      p.lendingsRefused = q.lendingsRefused ∧ p.messagesEnabled = q.messagesEnabled := by
  simp only [Port.settled, Port.mk.injEq, true_and, and_true] at h
  obtain ⟨h1, h2, h3, h4, h5, h6, h7, h8, h9, h10, h11, h12⟩ := h
  exact ⟨h2, h10, h11, h1, h3, h4, h5, h6, h7, h8, h9, h12⟩

/-- An order of one action, at its page, is its rule and then its completion. -/
theorem orderStep_at {s : State} {t : Taken} {code : Nat} {args : List Word} (h : s.atOrder t code args) (rule : OrderRule) :
    orderStep code rule s =
      .next ((rule args s).1.completeOrder t (s.orderWord t) (rule args s).2).settle := by
  obtain ⟨h1, h2, h3⟩ := h
  simp [orderStep, h1, h2, h3, completes]

/-- The completion of an order gives its result, when its effect has left the Exchange Port but for attention. -/
theorem State.completeOrder_result {s u : State} (hw : s.memoryCanonical) (hp : u.port.settled = s.port.settled) (t : Taken)
    (r : ResultCode) : s.orderResult (u.completeOrder t (s.orderWord t) r).settle t r := by
  obtain ⟨hm, hd, hf, -⟩ := Port.settled_parts hp
  have hl := State.badLength_congr hm
  have ho := State.badOrder_congr hm
  unfold State.completeOrder State.comeTo
  refine ⟨?_, ?_, ?_⟩
  · intro hr
    rw [if_neg hr]
    exact State.endPage_ended hw hm hd hf _ _ _
  · intro hr hmore
    rw [if_pos hr, if_neg (by simp [hmore])]
    exact State.endPage_ended hw hm hd hf _ _ _
  · intro hr hmore
    rw [if_pos hr, if_pos hmore]
    refine ⟨?_, ?_, ?_⟩
    · intro hb
      rw [if_pos (by rw [hl]; exact hb)]
      exact State.endPage_ended hw hm hd hf _ _ _
    · intro hb hc
      rw [if_neg (by rw [hl, hb]; simp), if_pos (by rw [ho]; exact hc)]
      exact State.endPage_ended hw hm hd hf _ _ _
    · intro hb hc
      rw [if_neg (by rw [hl, hb]; simp), if_neg (by rw [ho, hc]; simp)]
      exact ⟨rfl, congrArg (fun m => Memory.readWord m (headerAddress t.page)) hm, hd, hf⟩

/-- The completion of an order answers it, when its effect has left the Exchange Port but for attention. -/
theorem State.completeOrder_answered {s u : State} (hw : s.memoryCanonical) (hp : u.port.settled = s.port.settled) (t : Taken)
    (r : ResultCode) : s.orderAnswered (u.completeOrder t (s.orderWord t) r).settle t r := by
  refine ⟨State.completeOrder_result hw hp t r, ?_⟩
  obtain ⟨hm, -⟩ := Port.settled_parts hp
  unfold State.completeOrder State.comeTo
  split
  · split
    · split
      · exact State.endPage_otherBytes hw hm _ _ _
      · split
        · exact State.endPage_otherBytes hw hm _ _ _
        · intro a _
          exact congrArg (fun m => Memory.read m a) hm
    · exact State.endPage_otherBytes hw hm _ _ _
  · exact State.endPage_otherBytes hw hm _ _ _

/-- The completion of an order, whatever its result, leaves every field alone but the Exchange Port, the page being executed
and the status region. -/
theorem State.completeOrder_cases {P : State → Prop} (u : State) (t : Taken) (w : Word) (r : ResultCode)
    (he : ∀ p r i, P (u.endPage p r i)) (ht : ∀ n, P (u.setTaken (some n))) : P (u.completeOrder t w r) := by
  unfold State.completeOrder State.comeTo
  split
  · split
    · split
      · exact he _ _ _
      · split
        · exact he _ _ _
        · exact ht _
    · exact he _ _ _
  · exact he _ _ _

/-- The completion of an order leaves the other blocks as they are. -/
theorem State.completeOrder_blocks (u : State) (t : Taken) (w : Word) (r : ResultCode) :
    (u.completeOrder t w r).settle.clock = u.clock ∧ (u.completeOrder t w r).settle.tracking = u.tracking ∧
      (u.completeOrder t w r).settle.gauges = u.gauges ∧ (u.completeOrder t w r).settle.gaugeLinks = u.gaugeLinks ∧
      (u.completeOrder t w r).settle.bus = u.bus ∧ (u.completeOrder t w r).settle.channels = u.channels ∧
      (u.completeOrder t w r).settle.protection.links = u.protection.links ∧
      (u.completeOrder t w r).settle.protection.sources = u.protection.sources ∧
      (u.completeOrder t w r).settle.protection.groups = u.protection.groups ∧
      (u.completeOrder t w r).settle.reports = u.reports ∧ (u.completeOrder t w r).settle.unstated = u.unstated ∧
      (u.completeOrder t w r).settle.pending = u.pending ∧ u.ordersKept (u.completeOrder t w r).settle :=
  State.completeOrder_cases (P := fun v => v.settle.clock = u.clock ∧ v.settle.tracking = u.tracking ∧
      v.settle.gauges = u.gauges ∧ v.settle.gaugeLinks = u.gaugeLinks ∧ v.settle.bus = u.bus ∧
      v.settle.channels = u.channels ∧ v.settle.protection.links = u.protection.links ∧
      v.settle.protection.sources = u.protection.sources ∧ v.settle.protection.groups = u.protection.groups ∧
      v.settle.reports = u.reports ∧ v.settle.unstated = u.unstated ∧ v.settle.pending = u.pending ∧
      u.ordersKept v.settle) u t w r
    (fun _ _ _ => ⟨rfl, rfl, rfl, rfl, rfl, rfl, rfl, rfl, rfl, rfl, rfl, rfl, rfl⟩)
    (fun _ => ⟨rfl, rfl, rfl, rfl, rfl, rfl, rfl, rfl, rfl, rfl, rfl, rfl, rfl⟩)

/-- The completion of an order keeps the Exchange Port's registers, queue and other counters. -/
theorem State.completeOrder_portKept {s u : State} (hp : u.port.settled = s.port.settled) (t : Taken) (w : Word)
    (r : ResultCode) : s.portKept (u.completeOrder t w r).settle := by
  have h : s.portKept u := (Port.settled_parts hp).2.2.2
  refine State.completeOrder_cases (P := fun v => s.portKept v.settle) u t w r (fun p r i => ?_) (fun _ => h)
  have e : (u.endPage p r i).settle.port = (u.endPage p r i).port := rfl
  obtain ⟨h1, h2, h3, h4, h5, h6, h7, h8, h9⟩ := h
  cases r <;> exact ⟨h1, h2, h3, h4, h5, h6, h7, h8, h9⟩

/-- An order whose effect leaves the Exchange Port alone is quiet. -/
theorem State.completeOrder_quiet {s u : State} (hp : u.port = s.port) (t : Taken) (w : Word) (r : ResultCode) :
    s.quiet (u.completeOrder t w r).settle := by
  have e : ∀ v, u.attentionRaised v .order → s.attentionRaised v .order := by
    intro v hv
    simp only [State.attentionRaised, State.attentionIs, hp] at hv ⊢
    exact hv
  refine State.completeOrder_cases (P := fun v => s.quiet v.settle) u t w r (fun p r i => ?_) (fun n => ?_)
  · exact ⟨fun _ => e _ (State.endPage_attention u p r i), fun h => absurd rfl h⟩
  · exact ⟨fun h => absurd h (by simp [State.setTaken]), fun _ => ⟨congrArg Port.attention hp, congrArg Port.messagesSent hp⟩⟩

/-- An order that is answered with nothing changed. -/
theorem State.completeOrder_only {s : State} (hw : s.memoryCanonical) (t : Taken) (r : ResultCode) :
    s.onlyAnswered (s.completeOrder t (s.orderWord t) r).settle t r := by
  obtain ⟨h1, h2, h3, h4, h5, h6, h7, h8, h9, h10, h11, h12, h13⟩ := State.completeOrder_blocks s t (s.orderWord t) r
  exact ⟨State.completeOrder_answered hw rfl t r, State.completeOrder_quiet rfl t _ r, h13,
    ⟨h1, h4, h7, h11, h12, State.completeOrder_portKept rfl t _ r⟩, h2, h3, h5, h6, ⟨h8, h9⟩, h10⟩

end Sys2Proof.Machine
end

