-- ==== Sys2Proof/Tests/Slice0.lean ====
section
/-! SUPPORT. The model's own tests: terms that the check of well-formedness refuses, single steps and worked values of the
manual, and for every statement with premises states and operands that meet them, clause by clause. -/

open Sys2Proof Sys2Proof.Machine

namespace Sys2Proof.Tests

set_option Elab.async false

/-! ## Well-formedness -/

theorem test_request_of_no_word_refused : (Instr.hostMemoryWrite 0#16 []).wellFormed = false := by decide

theorem test_request_past_the_window_refused :
    (Instr.hostMemoryWrite 0xFFFF#16 [default, default]).wellFormed = false := by decide

theorem test_request_to_the_last_word_accepted : (Instr.hostMemoryWrite 0xFFFF#16 [default]).wellFormed = true := by decide

/-- A reply of drive 8 with every number at the end of its range. -/
def lastReply : ReplyFrame where
  address := 8#4
  actualGap := 60000#16
  force := 60000#16
  lengthCount := 0xFFFF#16
  ready := true
  loaded := true
  following := true
  opened := true
  fault := true

theorem test_reply_at_its_ends_accepted : (Instr.reply lastReply).wellFormed = true := by decide

theorem test_reply_of_address_0_refused : (Instr.reply { lastReply with address := 0#4 }).wellFormed = false := by decide

theorem test_reply_of_address_9_refused : (Instr.reply { lastReply with address := 9#4 }).wellFormed = false := by decide

theorem test_reply_with_gap_60001_refused :
    (Instr.reply { lastReply with actualGap := 60001#16 }).wellFormed = false := by decide

theorem test_reply_with_force_60001_refused :
    (Instr.reply { lastReply with force := 60001#16 }).wellFormed = false := by decide

/-! ## Small states -/

/-- Settings of a test stand. -/
def standOf (priority : Nat) (burst : Bool) : StandSettings where
  priority := priority
  burst := burst
  initialMode := .gated
  pollInterval := 2
  gapMin := 1000
  gapMax := 5000
  trimLimit := 100

/-- Settings of a test gauge. -/
def gaugeOf (link : Nat) : GaugeSettings where
  link := link
  silenceTime := 20
  standardiseLimit := 30
  feedbackGain := 800
  feedForwardGain := 100
  minimumCount := 1

/-- Two stands with gauge 1 between them; every source is mapped to group 1, LEVEL but for the pulses, source 5 masked. -/
def plant : Tables where
  slotLength := 100
  holdTime := 10
  drainAllowance := 100
  fairness := true
  stations := [.stand, .gauge 1, .stand]
  stands := [standOf 0 true, standOf 1 false]
  gauges := #v[gaugeOf 1, gaugeOf 2, gaugeOf 3, gaugeOf 4]
  tripMap := Vector.ofFn (fun x : Fin 62 => { group := 1, level := decide (x.val < 60), masked := x.val == 5 })
  groups := Vector.replicate 16 { stands := 1#8, millWide := false, extending := true, cls := 1 }
  profiles := Vector.replicate 8 [125, 250, 375, 500, 625, 750, 875, 1000]

/-- Segment n of coil 7. -/
def seg (n : Nat) : Segment := Segment.fresh 7#32 n

/-- Coil 7 with four segments. -/
def coil7 (state : CoilState) : Coil where
  id := 7#32
  seq := 1#32
  segCount := 4
  lengths := [100, 100]
  thicknesses := [3000, 2000]
  state := state
  shortenedSeen := false
  scrapped := false
  inSpans := 4
  reported := 0
  shortened := 0

/-- The plant in a mill state: both channels IDLE at 2,000 in GATED mode, gauge 1 READY, no strip. -/
def mill (m : MillState) : State :=
  { State.reset with
    orders := { State.reset.orders with mill := m, tables := some plant }
    tracking := { State.reset.tracking with
      stations := (upTo 3).map (Station.fresh plant), spans := [[], [], [], []] }
    gauges := #v[{ Gauge.fresh with state := .ready, link := some 1, station := some 2, silence := some 9#32 },
      Gauge.fresh, Gauge.fresh, Gauge.fresh]
    channels := #v[{ Channel.fresh with state := .idle, planValue := 2000, effective := 2000, lastSent := 2000 },
      { Channel.fresh with state := .idle, planValue := 2000, effective := 2000, lastSent := 2000 },
      Channel.fresh, Channel.fresh, Channel.fresh, Channel.fresh, Channel.fresh, Channel.fresh] }

/-- The first order of page 0. -/
def front : Taken where
  page := 0
  word := 0
  index := 0

/-- A state with page 0 TAKEN and one order of a code and arguments in it. -/
def onPage (code : Nat) (args : List Word) (s : State) : State :=
  ((s.setPort { s.port with
      mem := Memory.writeWords s.port.mem (bodyAddress 0 0) (BitVec.ofNat 32 (code + 256 * args.length) :: args) }).writeHeader
    0 (header .taken .ok (1 + args.length) 0)).setTaken (some front)

/-- Memory is canonical and the order that waits is the one on page 0 with this code and these arguments. -/
def waits (code : Nat) (args : List Word) (s : State) : Bool :=
  Memory.wf s.port.mem && decide (s.waitingOrder = some front) && orderCode (s.orderWord front) == code &&
    s.orderArguments front == args

/-- What `waits` says: the premises that every statement about an order has in common. -/
theorem waits_premises {code : Nat} {args : List Word} {s : State} (h : waits code args s = true) :
    s.memoryCanonical ∧ s.atOrder front code args := by
  simp only [waits, Bool.and_eq_true, decide_eq_true_eq, beq_iff_eq] at h
  exact ⟨h.1.1.1, h.1.1.2, h.1.2, h.2⟩

/-- s with the order on its page waits for it. -/
def meets (code : Nat) (args : List Word) (s : State) : Bool := waits code args (onPage code args s)

/-- s with coil 7 in place 1 and segments 1 to 4 in the spans given. -/
def withStrip (state : CoilState) (spans : List (List Segment)) (s : State) : State :=
  s.setTracking { s.tracking with coils := upd s.tracking.coils 1 (fun _ => some (coil7 state)), spans := spans }

/-- s with station j in a form. -/
def atStation (j : Nat) (f : StationForm) (s : State) : State := s.onStation j (fun t => { t with form := f })

/-- s with channel k in a state. -/
def atChannel (k : Nat) (x : ChannelState) (s : State) : State := s.onChannel k (fun c => { c with state := x })

/-- s with group g latched, owed or not, striking stand 1. -/
def atGroup (g : Nat) (owed : Bool) (s : State) : State :=
  s.onGroup g (fun r => { r with
    latched := true, owed := owed, struck := 1#8, config := { r.config with cls := 1 }, firstCause := some 0 })

/-- Spans with strip: segment 2 before station 1, whose bite it is, segment 1 before station 2. -/
def strip : List (List Segment) := [[seg 2, seg 3, seg 4], [seg 1], [], []]

/-- The mill ARMED with strip; station 1 THREADED with segment 2 and station 2 with segment 1. -/
def rolling : State :=
  atStation 1 (.threaded { coil := 7#32, number := 2 } 10)
    (atStation 2 (.threaded { coil := 7#32, number := 1 } 10) (withStrip .rolling strip (mill .armed)))

/-- A plan entry for a segment of coil 7. -/
def planOf (n : Nat) (due : Bool) : PlanEntry where
  key := { coil := 7#32, number := n }
  target := 3000
  profile := 8
  steps := 4
  due := due

/-- s with the plans of channel k. -/
def atPlans (k : Nat) (l : List PlanEntry) (s : State) : State := s.onChannel k (fun c => { c with plans := l })

/-- A ramp from 2,000 to 3,000 in four steps on a straight line, with so many sent and not followed. -/
def rampOf (sent notFollowing : Nat) : Ramp where
  start := 2000
  final := 3000
  profile := 8
  steps := 4
  sent := sent
  stepDue := true
  followingAwaited := false
  notFollowing := notFollowing

/-- s with channel k on a ramp. -/
def atRamp (k : Nat) (r : Ramp) (s : State) : State := s.onChannel k (fun c => { c with state := .ramping, ramp := some r })

/-- The host owns no page of s but those whose header is written here. -/
def atHeader (p : Nat) (h : Word) (s : State) : State := s.writeHeader p h

/-- s with the length baseline of drive k so far back that the replies of these tests bring a delta of d. -/
def based (k d : Nat) (s : State) : State :=
  s.onDrive k (fun x => { x with baselineValid := true, baseline := 5#16 - BitVec.ofNat 16 d })

/-- s with station j's loaded flag set. -/
def loadedAt (j : Nat) (s : State) : State := s.onStation j (fun t => { t with loaded := true })

/-- Station j of the plant stands as its list, its strip and its bite ask. -/
def stationSound (s : State) (j : Nat) : Bool :=
  decide ((s.station j).kind = numL plant.stations j) && decide ((s.station j).feeding = plant.feeding j) &&
    (match s.span (j - 1) with
      | [] => true
      | x :: _ =>
        !x.shortened && !(s.station j).transparent && decide ((s.station j).closedCoil ≠ some x.key.coil) &&
          decide ((s.station j).form ≠ .awaiting x.key.coil)) &&
    (match (s.station j).form with
      | .threaded b _ =>
        decide ((s.station j).closedCoil = none) && decide (((s.span (j - 1)).head?).map Segment.key = some b)
      | _ => true)

/-- What `stationSound` says of the station list. -/
theorem stationSound_list {s : State} {j : Nat} (h : stationSound s j = true) :
    (s.station j).kind = numL plant.stations j ∧ (s.station j).feeding = plant.feeding j := by
  simp only [stationSound, Bool.and_eq_true, decide_eq_true_eq] at h
  exact h.1.1

/-- What `stationSound` says of the strip. -/
theorem stationSound_strip {s : State} {j : Nat} (h : stationSound s j = true) :
    (∀ x rest, s.span (j - 1) = x :: rest →
      x.shortened = false ∧ (s.station j).transparent = false ∧ (s.station j).closedCoil ≠ some x.key.coil ∧
        (s.station j).form ≠ .awaiting x.key.coil) ∧
    (∀ b a, (s.station j).form = .threaded b a →
      (s.station j).closedCoil = none ∧ ∃ x rest, s.span (j - 1) = x :: rest ∧ x.key = b) := by
  simp only [stationSound, Bool.and_eq_true] at h
  refine ⟨fun x rest hx => ?_, fun b a hf => ?_⟩
  · have := h.1.2
    rw [hx] at this
    simpa [and_assoc] using this
  · have := h.2
    rw [hf] at this
    simp only [Bool.and_eq_true, decide_eq_true_eq] at this
    refine ⟨this.1, ?_⟩
    cases hs : s.span (j - 1) with
    | nil => rw [hs] at this; simp at this
    | cons x rest => rw [hs] at this; exact ⟨x, rest, rfl, by simpa using this.2⟩

/-- The plant of s stands as every step leaves it: its list, gauge 1 alone present, its strip and its bites. -/
def plantSound (s : State) : Bool :=
  decide (s.orders.tables = some plant) && decide (s.tracking.stations.length = 3) &&
    decide (s.tracking.spans.length = 4) && decide ((s.gauge 1).station = some 2) &&
    [2, 3, 4].all (fun g => (s.gauge g).state == .absent) && [1, 2, 3].all (stationSound s)

/-- What `plantSound` says. -/
theorem plantSound_tracking {s : State} (h : plantSound s = true) (ha : s.orders.mill = .armed) :
    s.trackingSound := by
  simp only [plantSound, Bool.and_eq_true, decide_eq_true_eq, List.all_cons, List.all_nil, Bool.and_true,
    beq_iff_eq] at h
  obtain ⟨⟨⟨⟨⟨ht, hs⟩, hp⟩, hg⟩, g2, g3, g4⟩, j1, j2, j3⟩ := h
  have hm : s.stationCount = 3 := by unfold State.stationCount; rw [ht]; rfl
  have hj : ∀ j, 1 ≤ j → j ≤ 3 → stationSound s j = true := by
    intro j h1 h3
    have : j = 1 ∨ j = 2 ∨ j = 3 := by omega
    rcases this with rfl | rfl | rfl <;> assumption
  refine ⟨ha, ?_, ⟨by rw [hs, hm], fun _ => by rw [hp, hm], ?_⟩, ?_, ?_⟩
  · rw [ht]; exact Option.some_ne_none _
  · intro g h1 h4 hne
    have : g = 1 ∨ g = 2 ∨ g = 3 ∨ g = 4 := by omega
    rcases this with rfl | rfl | rfl | rfl
    · exact ⟨2, hg, by decide, by rw [hm]; decide⟩
    · exact absurd g2 hne
    · exact absurd g3 hne
    · exact absurd g4 hne
  · intro t htt j h1 h3
    rw [ht] at htt
    cases htt
    exact stationSound_list (hj j h1 h3)
  · intro j h1 h3
    rw [hm] at h3
    exact stationSound_strip (hj j h1 h3)

/-! ## Worked values of the manual and single steps -/

theorem test_no_word_is_a_command : decodeTableWord 32 0xFFFFFFFF = none := by decide

/-- IDENT (R180): family code 0x5C7, revision 0x01. -/
theorem test_ident : State.reset.registerRead 0 = 0x000105C7#32 := by decide +kernel

/-- A POSTED header of five words, and a FAILED one with result RESET, 63 words and item 2 (R155, R162, R178). -/
theorem test_header_words :
    header .posted .ok 5 0 = 0x501#32 ∧ header .failed .reset 63 2 = 0x00023FE4#32 := by decide +kernel

/-- A SEGMENT record with one gauge and three stands has 13 words, with four gauges and eight stands 35 (R166, Chapter 11). -/
theorem test_segment_record_lengths :
    (segmentRecord 0 [1] 3 (seg 1)).length = 13 ∧ (segmentRecord 0 [1, 2, 3, 4] 8 (seg 1)).length = 35 := by decide +kernel

/-- K1's mean deviation of 5 changes the feedback trim by -4 at gain 800 (Chapter 11, E11). -/
theorem test_feedback_of_K1 : correction 5 800 = -4 := by decide

/-- A step of a straight line from 2,000 to 3,000 in four (R114). -/
theorem test_linear_step : (rampOf 0 0).value [] 1 = 2250 := by decide

/-- The bytes of a POLL to drive 1 begin with 0x31 and end with the CRC of that byte, high byte first (R182). -/
theorem test_poll_bytes : requestBytes (.poll 1) = [0x31#8, (crc [0x31#8]).extractLsb' 8 8, (crc [0x31#8]).extractLsb' 0 8] := by
  decide +kernel

/-- The CRC of the nine characters 1 to 9 under R182's polynomial, start value and bit order. -/
theorem test_crc : crc [0x31#8, 0x32#8, 0x33#8, 0x34#8, 0x35#8, 0x36#8, 0x37#8, 0x38#8, 0x39#8] = 0x29B1#16 := by
  decide +kernel

/-- A frame whose last character lacks its stop bit is bad (R183). -/
theorem test_missing_stop_bit :
    protectionCommand 0 ((sent heartbeatBytes).map (fun c => { c with stop := false })) = .protectionBadFrame 0 := by
  decide +kernel

/-- The field of a step's next state, if there is one. -/
def after {α : Type} (c : Instr) (s : State) (f : State → α) : Option α :=
  match exec c s with
  | .next u => some (f u)
  | .fault _ => none
  | .refused _ => none

/-- Every command answers a next state on the rolling plant. -/
def completesOn (c : Instr) (s : State) : Bool := (after c s (fun _ => true)).getD false

/-- E4 of Chapter 11 in small: a delta of 190 passes segments 2 and 3 at station 1 and leaves segment 4 with 0. -/
theorem test_two_passages :
    ((rolling.trackReply 1 (some 190) false).span 0).map (fun g => g.key.number) = [4] ∧
      ((rolling.trackReply 1 (some 190) false).station 1).form = .threaded { coil := 7#32, number := 4 } 0 := by
  decide +kernel

/-- ARM MILL from READY (R19). -/
theorem test_arm : after .armMill (onPage 0x02 [] (mill .ready)) (fun u => u.orders.mill) = some .armed := by decide +kernel

/-- A write to the configuration region while ARMED is dropped with its address (R153). -/
theorem test_locked_write :
    after (.hostMemoryWrite 0x0010#16 [default]) (mill .armed) (fun u => u.port.lastDropped) =
      some (some { registerBlock := false, address := 0x0010, reason := .configurationLocked }) := by decide +kernel

/-- A request past BAR1 is the one fault (log 10). -/
theorem test_past_the_window :
    exec (.hostMemoryWrite 0xFFFF#16 [default, default]) State.reset = .fault .outsideExchangeMemory := by
  simp [exec, execHostMemoryWrite]

/-- The third missed reply makes a drive LOST (R85). -/
theorem test_third_miss : (Drive.miss { Drive.fresh with missed := 2 }).answering = .lost := by decide

/-- An assertion of source 0 latches group 1, which strikes stand 1 (R131, R132). -/
theorem test_latch :
    let s := (mill .ready).onGroup 1 (fun r => { r with config := { r.config with stands := 1#8 } })
    ((s.setSource 0 false).group 1).latched = false ∧ (((s.setSource 0 false).setLevel 0 true).group 1).latched = true ∧
      (((s.setSource 0 false).setLevel 0 true).group 1).struck = 1#8 := by decide +kernel

/-- A masked source raises a WARNING and latches nothing (R131). -/
theorem test_masked :
    let u := ((mill .ready).setSource 5 false).setLevel 5 true
    (u.group 1).latched = false ∧ u.reports.queue = [.warning 5 1 0#32] := by decide +kernel

/-- A READY gauge that an adoption no longer names leaves READY: its debounce counter becomes 0 (R68). -/
theorem test_unnamed_debounce : (Gauge.unnamed { Gauge.fresh with state := .ready, debounce := 2 }).debounce = 0 := by decide

/-- An event discarded with 65,535 reports lost rewrites the record of the Report Writer all the same (R172). -/
theorem test_discard_rewrites (s : State) (e : EventRecord) (h : ¬ s.reports.queue.length < 16) :
    (num (s.pushEvent e).status (Status.reportSlot + 1)).count = (num s.status (Status.reportSlot + 1)).count + 1#32 := by
  unfold State.pushEvent
  dsimp only
  rw [if_neg (show ¬ s.reports.queue.length < Config.holdingPlaces from h)]
  exact State.rewriteSlot_count _ (by decide)

/-- Two bites pass at stand 1 under a delta of 190 and the third is threaded with nothing left (R48). -/
theorem test_strip_passes :
    (rolling.passing 1 (some 190)).map (fun x => x.key.number) = [2, 3] ∧
      rolling.formAfter 1 (some 190) = .threaded { coil := 7#32, number := 4 } 0 := by decide +kernel

/-- A step on an empty queue with nothing due lets a microsecond pass (log 3). -/
theorem test_tick : step State.reset = .next State.reset.tick := by rfl

/-! ## Witnesses for the premises of the statements -/

theorem test_witness_StepRunsFrontCommand : (State.reset.setPending [.take]).pending = [.take] := rfl

/-- Pages POSTED, TAKEN, LENT with records, LENT without, and host-owned. -/
def swept : State :=
  let s := atHeader 1 0x501#32 (atHeader 2 0x602#32 (atHeader 3 6#32 (atHeader 767 6#32 (mill .ready))))
  (s.setReports { s.reports with lent := [3, 767], wordCount := 4, recordCount := 1 }).setTaken (some { front with page := 2 })

theorem test_witness_SoftAndLinkReset :
    Memory.wf swept.port.mem = true ∧ headerState (swept.headerOf 1) = some .posted ∧
      headerState (swept.headerOf 2) = some .taken ∧ swept.orders.taken = some { front with page := 2 } ∧
      headerState (swept.headerOf 3) = some .lent ∧ swept.reports.lent.head? = some 3 ∧ swept.reports.recordCount ≠ 0 ∧
      headerState (swept.headerOf 767) = some .lent ∧ headerState (swept.headerOf 0) = some .free := by decide +kernel

theorem test_witness_RegisterWrites :
    (0xFFFFFFFF#32).getLsbD 0 = true ∧ (0xFFFFFFFE#32).getLsbD 0 = false ∧ (2#4 &&& 14#4 ≠ 0#4) ∧ (8#4 &&& 14#4 ≠ 0#4) := by
  decide

/-- A whole word written with a state code. -/
def whole (w : Word) : WordWrite where
  data := w
  enables := 15#4

theorem test_witness_HostWriteWordByWord :
    (0xFFFF#16).toNat + 1 ≤ 65536 ∧ 65536 < (0xFFFF#16).toNat + 2 ∧
      completesOn (.hostMemoryWrite 0xFFFE#16 [default, default]) (mill .ready) = true ∧
      completesOn (.hostMemoryWrite 0xFFFE#16 [default]) (mill .ready) = true ∧
      partOwned ((mill .ready).headerOf 767) = false ∧
      headerState ((mill .ready).merged (headerAddress 767) (whole 1#32)) = some .posted ∧
      headerState ((mill .ready).merged (headerAddress 767) (whole 6#32)) = some .lent := by decide +kernel

theorem test_witness_HostWordStoredOrDropped :
    Memory.wf (mill .ready).port.mem = true ∧ (mill .ready).orders.adopting = none ∧ (mill .ready).orders.mill ≠ .armed ∧
      (0x1FFF#16).toNat < 0x2000 ∧ partOwned ((mill .ready).headerOf ((0x4000 - 0x4000) / 64)) = false ∧
      headerState ((mill .ready).merged 0xFFFF (whole 0#32)) = some .free ∧ (0xFFFF - 0x4000) % 64 = 63 ∧
      (mill .armed).orders.mill = .armed ∧ partOwned (swept.headerOf ((0x4040 - 0x4000) / 64)) = true ∧
      headerState ((mill .ready).merged 0xFFFF (whole 2#32)) ≠ some .free ∧
      headerState ((mill .ready).merged 0xFFFF (whole 2#32)) ≠ some .posted ∧
      headerState ((mill .ready).merged 0xFFFF (whole 2#32)) ≠ some .lent := by decide +kernel

/-- s with so many pages in the intake queue and in the lent list. -/
def queued (n : Nat) (s : State) : State :=
  (s.setPort { s.port with intake := List.range n }).setReports { s.reports with lent := List.range n }

theorem test_witness_hand_overs :
    Memory.wf (mill .ready).port.mem = true ∧ partOwned ((mill .ready).headerOf 767) = false ∧
      (queued 31 (mill .ready)).port.intake.length < 32 ∧ 32 ≤ (queued 32 (mill .ready)).port.intake.length ∧
      (queued 63 (mill .ready)).reports.lent.length < 64 ∧ 64 ≤ (queued 64 (mill .ready)).reports.lent.length ∧
      partOwned (swept.headerOf 1) = true := by decide +kernel

/-- s with page 0 POSTED, an order in it, and in the intake queue. -/
def postedPage (code count : Nat) (s : State) : State :=
  let s1 := atHeader 0 (header .posted .ok 1 0) (s.storeWord (bodyAddress 0 0) (BitVec.ofNat 32 (code + 256 * count)))
  s1.setPort { s1.port with intake := [0] }

theorem test_witness_TakeBeginsPage :
    let good := postedPage 0x02 0 (mill .ready)
    let long := postedPage 0x02 1 (mill .ready)
    let unknown := postedPage 0x05 0 (mill .ready)
    Memory.wf good.port.mem = true ∧ good.orders.taken = none ∧ good.port.intake = [0] ∧
      good.badLength front = false ∧ good.badOrder front = false ∧ long.badLength front = true ∧
      unknown.badLength front = false ∧ unknown.badOrder front = true := by decide +kernel

theorem test_witness_OrderFirstChecks :
    meets 0x02 [] (mill .armed) = true ∧ orderAllowed 0x02 .armed = false ∧ orderCommand 0x02 = some .armMill ∧
      meets 0x40 [1#32] (mill .armed) = true ∧ orderAllowed 0x40 .armed = true ∧ orderCommand 0x40 = some .flushReports ∧
      ([1#32] : List Word).length ≠ argumentCount 0x40 2 := by decide +kernel

/-- The words of a valid configuration region with two stands. -/
def validWords : List (Nat × Word) :=
  [(0x00, 50#32), (0x01, 1#32), (0x02, 1#32), (0x04, 2#32), (0x10, 0x10#32), (0x11, 0x10#32)] ++
  [(0x23, 2#32), (0x25, 1#32), (0x28, 1#32), (0x2B, 2#32), (0x2D, 1#32)] ++
  (List.range 8).map (fun p => (pointWord p 8, 1000#32))

/-- s with a region and an adoption in flight for the order on page 0. -/
def adoptingFrom (words : List (Nat × Word)) (s : State) : State :=
  let s1 := onPage 0x01 [] (words.foldl (fun t w => t.storeWord w.1 w.2) s)
  s1.setOrders { s1.orders with adopting := some 0#32 }

theorem test_witness_AdoptionBeginsAndIsRefused :
    meets 0x01 [] (mill .ready) = true ∧ (mill .ready).orders.mill ≠ .armed ∧
      Memory.wf (adoptingFrom [] (mill .ready)).port.mem = true ∧
      (adoptingFrom [] (mill .ready)).orders.adopting = some 0#32 ∧
      (adoptingFrom [] (mill .ready)).orders.taken = some front ∧
      firstBadWord (adoptingFrom [] (mill .ready)).port.mem = some 0 := by decide +kernel

/-- An adoption of the valid region from UNCONFIGURED. -/
def firstAdoption : State := adoptingFrom validWords State.reset

/-- An adoption of the valid region from READY, with group 3 latched. -/
def reAdoption : State := adoptingFrom validWords (atGroup 3 false (mill .ready))

theorem test_witness_AdoptionInstalls :
    Memory.wf firstAdoption.port.mem = true ∧ firstAdoption.orders.adopting = some 0#32 ∧
      firstAdoption.orders.taken = some front ∧ firstBadWord firstAdoption.port.mem = none ∧
      firstAdoption.orders.mill = .unconfigured ∧ (firstAdoption.channel 2).state = .absent ∧
      (reAdoption.channel 2).state ≠ .absent ∧ firstBadWord reAdoption.port.mem = none ∧
      reAdoption.orders.mill ≠ .armed := by decide +kernel

/-- An adoption of the valid region from READY with drive 1 owner, channel 2 waiting for it and RAMPING. -/
def busyAdoption : State :=
  let s := adoptingFrom validWords (atRamp 2 (rampOf 1 0) (mill .ready))
  s.setBus { s.bus with owner := some 1, waits := upd s.bus.waits 2 (fun _ => some 1#8) }

theorem test_witness_AdoptionInstalls_present :
    busyAdoption.orders.mill = .ready ∧ busyAdoption.bus.owner = some 1 ∧ num busyAdoption.bus.waits 2 = some 1#8 ∧
      (busyAdoption.channel 1).state = .idle ∧ (busyAdoption.channel 2).state = .ramping ∧
      firstBadWord busyAdoption.port.mem = none ∧ Memory.wf busyAdoption.port.mem = true ∧
      (readTables busyAdoption.port.mem).standCount = 2 ∧
      (atChannel 2 .absent busyAdoption).orders.mill = .ready ∧
      ((atChannel 2 .absent busyAdoption).channel 2).state = .absent := by decide +kernel

/-- The first slot begins in the completion, with the adopted length (R15, R80). -/
theorem test_first_slot :
    after (.adoptionCompletion false) firstAdoption
      (fun u => (u.bus.slotTimer, u.bus.slot.isSome, (u.drive 1).granted || (u.drive 2).granted)) =
        some (some (BitVec.ofNat 32 (readTables firstAdoption.port.mem).slotLength), true, true) ∧
      firstAdoption.bus.owner = none ∧
      (upTo 8).all (fun k => (firstAdoption.channel k).state == .absent && (num firstAdoption.bus.waits k).isNone) = true := by
  decide +kernel

/-- firstAdoption's successor in which the first slot's beginning waits. -/
def slotWaiting : State :=
  match exec (.adoptionCompletion true) firstAdoption with
  | .next u => u
  | .fault _ => firstAdoption
  | .refused _ => firstAdoption

/-- The header write comes first: the page is DONE and ORDER is set, no request is presented yet, and the first slot is due
at the completion's instant (R184). -/
theorem test_header_write_first :
    slotWaiting.orders.mill = .ready ∧ slotWaiting.headerOf 0 = header .done .ok 1 1 ∧
      slotWaiting.attentionIs .order = true ∧ slotWaiting.bus.slot = none ∧
      (upTo 8).all (fun k => (slotWaiting.drive k).presented == .none) = true ∧
      slotWaiting.dueCommand = some (.slotTimerExpiry false) := by decide +kernel

/-- The first slot then begins with the adopted length, whatever the working slot length has become (R15, R80). -/
theorem test_first_slot_later :
    let s := slotWaiting.setOrders { slotWaiting.orders with tables := none }
    after (.slotTimerExpiry false) slotWaiting (fun u => (u.bus.slotTimer, u.bus.firstLength, u.bus.slot.isSome)) =
        some (some (BitVec.ofNat 32 (readTables firstAdoption.port.mem).slotLength), none, true) ∧
      after (.slotTimerExpiry false) s (fun u => u.bus.slotTimer) =
        some (some (BitVec.ofNat 32 (readTables firstAdoption.port.mem).slotLength)) ∧
      slotWaiting.missedDrive = none := by decide +kernel

theorem test_witness_GroupsAtAdoption :
    (reAdoption.group 3).latched = true ∧ (reAdoption.group 0).latched = false ∧
      completesOn (.adoptionCompletion false) reAdoption = true ∧
      after (.adoptionCompletion false) reAdoption (fun u => (u.group 0).latched && u.asserted 0) = some true ∧
      after (.adoptionCompletion false) reAdoption (fun u => (u.group 1).latched) = some false := by decide +kernel

theorem test_witness_ArmAndDisarm :
    meets 0x02 [] (mill .ready) = true ∧ (mill .ready).orders.mill = .ready ∧ meets 0x03 [] rolling = true ∧
      rolling.orders.mill = .armed ∧ num rolling.tracking.coils 1 ≠ none ∧ meets 0x03 [] (mill .armed) = true ∧
      (mill .armed).tracking.coils = Vector.replicate 8 none := by decide +kernel

theorem test_witness_SetSlotLength :
    meets 0x04 [50#32] { mill .ready with orders := State.reset.orders } = true ∧ meets 0x04 [] (mill .ready) = true ∧
      [49#32, 50#32, 55#32, 1000#32, 1001#32].all (fun x => meets 0x04 [x] (mill .ready)) = true ∧
      (mill .ready).orders.tables = some plant := by decide +kernel

/-- Arguments of ANNOUNCE COIL for two stands. -/
def announced (id count length thickness : Nat) : List Word :=
  [BitVec.ofNat 32 id, BitVec.ofNat 32 count, 16#32, BitVec.ofNat 32 length, BitVec.ofNat 32 thickness, 500#32]

/-- The mill ARMED with every place of the coil table held. -/
def fullTable : State :=
  (mill .armed).setTracking { (mill .armed).tracking with coils := Vector.replicate 8 (some (coil7 .rolling)) }

/-- The mill ARMED with 263 records of the pool in use: 250 more do not fit. -/
def fullPool : State :=
  (mill .armed).setTracking { (mill .armed).tracking with spans := [List.replicate 263 (seg 1), [], [], []] }

theorem test_witness_AnnounceCoil :
    [announced 0 1 16 500, announced 8 0 16 500, announced 8 251 16 500, announced 8 1 15 500, announced 8 1 16384 500,
        announced 8 1 16 30001, announced 8 250 16383 30000, announced 8 1 16 500].all
      (fun l => meets 0x10 l (mill .armed)) = true ∧
      meets 0x10 (announced 7 1 16 500) rolling = true ∧ meets 0x10 (announced 8 1 16 500) fullTable = true ∧
      meets 0x10 (announced 8 250 16 500) fullPool = true ∧ (mill .armed).tracking.spans ≠ [] ∧
      512 < (fullPool.tracking.spans.map List.length).sum + 250 ∧ (announced 8 1 16 500).length = 2 + 2 * 2 ∧
      (mill .armed).standCount = 2 := by decide +kernel

theorem test_witness_WithdrawCoil :
    let waiting := withStrip .announced [[seg 1, seg 2, seg 3, seg 4], [], [], []] (mill .armed)
    meets 0x11 [9#32] (mill .armed) = true ∧ (mill .armed).coilById 9#32 = none ∧ meets 0x11 [7#32] rolling = true ∧
      rolling.coilState 7#32 = some .rolling ∧ meets 0x11 [7#32] waiting = true ∧
      waiting.coilState 7#32 = some .announced := by decide +kernel

theorem test_witness_ScrapCoil :
    let ended := withStrip .ended [[], [], [], []] (mill .armed)
    meets 0x12 [9#32] (mill .armed) = true ∧ (mill .armed).coilById 9#32 = none ∧ meets 0x12 [7#32] ended = true ∧
      ended.coilState 7#32 = some .ended ∧ meets 0x12 [7#32] rolling = true ∧
      rolling.coilState 7#32 = some .rolling := by decide +kernel

theorem test_witness_AdvanceStation :
    [0#32, 1#32, 3#32, 4#32].all (fun x => meets 0x13 [x] rolling) = true ∧ rolling.stationCount = 3 ∧
      (rolling.station 1).bite = some { coil := 7#32, number := 2 } ∧ (rolling.station 3).bite = none := by decide +kernel

theorem test_witness_AdvanceStation_segment :
    (onPage 0x13 [1#32] rolling).trackingSound ∧ (rolling.station 1).transparent = false ∧ rolling.span 1 ≠ [] ∧
      (onPage 0x13 [2#32] rolling).trackingSound ∧ rolling.span 2 = [] ∧ (rolling.station 3).closedCoil = none :=
  ⟨plantSound_tracking (by decide +kernel) rfl, by decide +kernel, by decide +kernel,
    plantSound_tracking (by decide +kernel) rfl, by decide +kernel, by decide +kernel⟩

/-- The gauges of the plant and the shape of its stations and spans. -/
theorem plant_spansStand (m : MillState) : (mill m).spansStand := by
  refine ⟨rfl, fun _ => rfl, ?_⟩
  intro g h1 h4 hs
  have hg : g = 1 ∨ g = 2 ∨ g = 3 ∨ g = 4 := by omega
  rcases hg with rfl | rfl | rfl | rfl
  · exact ⟨2, rfl, by decide, Nat.le_of_ble_eq_true rfl⟩
  · exact absurd rfl hs
  · exact absurd rfl hs
  · exact absurd rfl hs

/-- s with gauge 1 in a state. -/
def atGauge (x : GaugeState) (s : State) : State := s.onGauge 1 (fun r => { r with state := x })

theorem test_witness_OmitGauge :
    meets 0x18 [1#32] (mill .ready) = true ∧ meets 0x18 [4#32] (mill .ready) = true ∧
      (mill .ready).orders.tables ≠ none ∧ (mill .ready).namedGauges = [1] ∧ ((mill .ready).gauge 1).state = .ready ∧
      meets 0x18 [1#32] (atGauge .omitted (mill .ready)) = true ∧
      ((atGauge .omitted (mill .ready)).gauge 1).state = .omitted := by decide +kernel

theorem test_witness_RestoreGauge :
    meets 0x19 [0#32] (mill .armed) = true ∧ meets 0x19 [1#32] (mill .armed) = true ∧
      ((mill .armed).gauge 1).state ≠ .omitted ∧ meets 0x19 [1#32] (atGauge .omitted (mill .armed)) = true ∧
      ((atGauge .omitted (mill .armed)).gauge 1).state = .omitted := by decide +kernel

/-- Arguments of PLAN GAP. -/
def planArgs (k coil segment target profile steps : Nat) : List Word :=
  [BitVec.ofNat 32 k, BitVec.ofNat 32 coil, BitVec.ofNat 32 segment, BitVec.ofNat 32 target, BitVec.ofNat 32 profile,
    BitVec.ofNat 32 steps]

theorem test_witness_PlanGapChecks :
    [planArgs 0 7 3 1000 8 64, planArgs 3 7 3 1000 8 64, planArgs 1 7 3 999 8 64, planArgs 1 7 3 5001 8 64,
        planArgs 1 7 3 1000 7 9, planArgs 1 7 3 5000 8 65, planArgs 1 7 3 5000 9 2, planArgs 1 7 0 5000 9 1,
        planArgs 1 9 3 5000 9 1, planArgs 1 7 5 5000 9 1].all (fun l => meets 0x20 l rolling) = true ∧
      meets 0x20 (planArgs 1 7 3 1000 8 1) (mill .ready) = true ∧
      meets 0x20 (planArgs 1 0 0 1000 8 1) (atChannel 1 .opened rolling) = true ∧
      (rolling.channel 1).state = .idle ∧ (rolling.coilById 7#32).map Coil.segCount = some 4 ∧
      rolling.coilById 9#32 = none := by decide +kernel

/-- PLAN GAP passes its checks. -/
def planPasses (args : List Word) (s : State) : Bool := meets 0x20 args s && decide (firstFailure (planChecks args (onPage 0x20 args s)) = .ok)

theorem test_witness_PlanGapPlaces :
    let full := (List.range 16).map (fun i => planOf (i + 10) false)
    planPasses (planArgs 1 0 0 3000 9 1) rolling = true ∧
      planPasses (planArgs 1 0 0 3000 9 1) (rolling.onChannel 1 (fun c => { c with mode := .free })) = true ∧
      planPasses (planArgs 1 0 0 3000 9 1) (atPlans 1 full rolling) = true ∧
      planPasses (planArgs 1 0 0 3000 9 1) (atPlans 1 [planOf 3 true] rolling) = true ∧
      planPasses (planArgs 1 7 2 3000 9 1) rolling = true ∧
      rolling.biteOfStand 1 = some { coil := 7#32, number := 2 } ∧
      planPasses (planArgs 1 7 1 3000 9 1) rolling = true ∧ rolling.segmentLate 1 { coil := 7#32, number := 1 } = true ∧
      planPasses (planArgs 1 7 3 3000 9 1) (atPlans 1 [planOf 3 false] rolling) = true ∧
      planPasses (planArgs 1 7 3 3000 9 1) rolling = true ∧
      planPasses (planArgs 1 7 3 3000 9 1) (atPlans 1 full rolling) = true ∧
      rolling.segmentLate 1 { coil := 7#32, number := 3 } = false := by decide +kernel

theorem test_witness_PlanGapPlaces_place :
    let l := [planOf 3 false, planOf 9 true, planOf 4 false]
    planPasses (planArgs 1 0 0 3000 9 1) (atPlans 1 l rolling) = true ∧ (rolling.channel 1).mode = .gated ∧
      (rolling.channel 1).release = false ∧
      l = [planOf 3 false] ++ planOf 9 true :: [planOf 4 false] ∧
      planPasses (planArgs 1 0 0 3000 9 1) (atPlans 1 [planOf 3 false] rolling) = true ∧
      (after .planGap (onPage 0x20 (planArgs 1 7 3 3000 9 1) (atPlans 1 [planOf 4 false] rolling))
        (fun u => (u.channel 1).plans.map (fun e => e.key.number))) = some [3, 4] := by decide +kernel

theorem test_witness_CancelPlans :
    meets 0x21 [0#32, 0#32] rolling = true ∧ meets 0x21 [3#32, 0#32] rolling = true ∧
      meets 0x21 [1#32, 9#32] rolling = true ∧ meets 0x21 [2#32, 0#32] rolling = true ∧
      meets 0x21 [1#32, 7#32] rolling = true ∧ rolling.coilById 9#32 = none ∧ rolling.coilById 7#32 ≠ none ∧
      rolling.standCount = 2 := by decide +kernel

theorem test_witness_SetRelease :
    let due := atPlans 1 [planOf 3 true] rolling
    meets 0x22 [0#32] rolling = true ∧ meets 0x22 [3#32] rolling = true ∧
      meets 0x22 [2#32] (atChannel 2 .opening rolling) = true ∧ meets 0x22 [1#32] rolling = true ∧
      (rolling.channel 1).plans.find? (fun e => e.due) = none ∧ meets 0x22 [1#32] due = true ∧
      (due.channel 1).mode = .gated ∧ (due.channel 1).plans.find? (fun e => e.due) = some (planOf 3 true) := by decide +kernel

theorem test_witness_SetChannelMode :
    let due := atPlans 1 [planOf 3 true] rolling
    let free := rolling.onChannel 1 (fun c => { c with mode := .free })
    [[0#32, 0#32], [3#32, 0#32], [1#32, 2#32], [1#32, 0#32], [2#32, 1#32]].all (fun l => meets 0x23 l rolling) = true ∧
      meets 0x23 [1#32, 0#32] free = true ∧ meets 0x23 [1#32, 1#32] free = true ∧ (free.channel 1).mode = .free ∧
      meets 0x23 [1#32, 1#32] due = true ∧ (due.channel 1).mode = .gated ∧
      (due.channel 1).plans.find? (fun e => e.due) = some (planOf 3 true) := by decide +kernel

theorem test_witness_ResetTrim :
    let trimmed := rolling.onChannel 1 (fun c => { c with feedback := 50 })
    let beyond := trimmed.onChannel 1 (fun c => { c with planValue := 5001 })
    meets 0x24 [0#32] rolling = true ∧ meets 0x24 [3#32] rolling = true ∧ meets 0x24 [1#32] rolling = true ∧
      (rolling.channel 1).feedback = 0 ∧ meets 0x24 [1#32] trimmed = true ∧ (trimmed.channel 1).feedback ≠ 0 ∧
      meets 0x24 [1#32] (atChannel 1 .recovering trimmed) = true ∧ meets 0x24 [1#32] beyond = true ∧
      (beyond.channel 1).clamp = false := by decide +kernel

/-- Eight points of a profile. -/
def points : List Word := [0#32, 0#32, 250#32, 500#32, 500#32, 750#32, 1000#32, 1000#32]

theorem test_witness_DefineProfile :
    let used := atPlans 1 [{ planOf 3 false with profile := 7 }] rolling
    meets 0x25 (8#32 :: points) rolling = true ∧ meets 0x25 (7#32 :: points) rolling = true ∧
      meets 0x25 (0#32 :: points.reverse) rolling = true ∧ meets 0x25 (7#32 :: points) used = true ∧
      points.length = 8 ∧ rolling.orders.tables = some plant := by decide +kernel

/-! ### Groups -/

theorem test_witness_StruckSet :
    holds (rolling.struckSet { stands := 1#8, millWide := false, extending := true, cls := 0 }) 1 = true ∧
      holds (rolling.struckSet { stands := 1#8, millWide := false, extending := true, cls := 0 }) 8 = false ∧
      holds ((atStation 3 (.threaded { coil := 7#32, number := 1 } 0) rolling).struckSet
        { stands := 1#8, millWide := false, extending := true, cls := 0 }) 2 = true := by decide +kernel

/-- Group 1 latched and not owed, with the level sources mapped to it clear. -/
def quietLatch : State :=
  let s := atGroup 1 false (atChannel 1 .opened rolling)
  s.setProtection { s.protection with sources := 0#62 }

/-- Group 1 latched and not owed, with level source 0 asserted. -/
def loudLatch : State := atGroup 1 false (atChannel 1 .opened rolling)

theorem test_witness_ClearGroup :
    meets 0x30 [1#32] (State.reset) = true ∧ meets 0x30 [] rolling = true ∧ meets 0x30 [16#32] rolling = true ∧
      meets 0x30 [15#32] rolling = true ∧ (rolling.group 15).latched = false ∧
      meets 0x30 [15#32] (atGroup 15 true rolling) = true ∧ ((atGroup 15 true rolling).group 15).owed = true ∧
      meets 0x30 [1#32] quietLatch = true ∧ (quietLatch.group 1).latched = true ∧ (quietLatch.group 1).owed = false ∧
      quietLatch.levelCauses 1 = [] ∧ meets 0x30 [1#32] loudLatch = true ∧
      (loudLatch.levelCauses 1).head? = some 0 := by decide +kernel

theorem test_witness_ClearClass :
    meets 0x31 [] rolling = true ∧ meets 0x31 [4#32] rolling = true ∧ meets 0x31 [3#32] rolling = true ∧
      meets 0x31 [1#32] quietLatch = true ∧ quietLatch.clearableGroups 1 = [1] ∧ meets 0x31 [1#32] loudLatch = true ∧
      loudLatch.clearableGroups 1 = [1] ∧ meets 0x31 [1#32] (atGroup 15 true quietLatch) = true ∧
      (atGroup 15 true quietLatch).classGroups 1 = [1, 15] ∧
      (atGroup 15 true quietLatch).clearableGroups 1 = [1] := by decide +kernel

/-- The map of s with entry x masked or not. -/
def masking (x : Nat) (b : Bool) (s : State) : State := s.setMasked x b

theorem test_witness_ForceTrip :
    meets 0x32 [] State.reset = true ∧ State.reset.orders.mill = .unconfigured ∧ meets 0x32 [0#32] rolling = true ∧
      meets 0x32 [] rolling = true ∧ (rolling.mapEntry 61).masked = false ∧ (rolling.group 1).latched = false ∧
      meets 0x32 [] (masking 61 true rolling) = true ∧ ((masking 61 true rolling).mapEntry 61).masked = true ∧
      meets 0x32 [] quietLatch = true ∧ (quietLatch.group 1).latched = true := by decide +kernel

theorem test_witness_MaskAndUnmask :
    [0#32, 61#32, 62#32].all (fun x => meets 0x33 [x] rolling && meets 0x34 [x] rolling) = true ∧
      rolling.orders.tables = some plant ∧ rolling.asserted 0 = true ∧ (rolling.mapEntry 0).level = true ∧
      (rolling.mapEntry 61).level = false ∧ (rolling.mapEntry 0).group < 16 := by decide +kernel

/-! ### Reports -/

/-- s with pages 3 and 767 LENT and a fill state. -/
def lending (pages : List Nat) (words records : Nat) (s : State) : State :=
  s.setReports { s.reports with
    lent := pages, wordCount := words, recordCount := records, hold := if records = 0 then none else some 5#32 }

theorem test_witness_FlushReports :
    meets 0x40 [1#32] rolling = true ∧ meets 0x40 [] rolling = true ∧ rolling.reports.lent = [] ∧
      meets 0x40 [] (lending [3, 767] 0 0 rolling) = true ∧ meets 0x40 [] (lending [3, 767] 2 1 rolling) = true ∧
      (lending [3, 767] 2 1 rolling).reports.lent = [3, 767] ∧
      (lending [3, 767] 2 1 rolling).reports.recordCount ≠ 0 := by decide +kernel

theorem test_witness_HoldTimerReturnsPage :
    Memory.wf rolling.port.mem = true ∧ rolling.reports.hold = none ∧
      (lending [3] 2 1 rolling).reports.hold = some 5#32 ∧ (lending [3] 2 1 rolling).reports.lent = [3] := by decide +kernel

/-- s with one WARNING record in the holding queue. -/
def withEvent (s : State) : State := s.setReports { s.reports with queue := [.warning 0 0 0#32] }

/-- s with an exit item. -/
def withExit (x : ExitItem) (s : State) : State := s.setTracking { s.tracking with exits := [x] }

/-- A COIL DONE record that has been written clears the closed coils of its id (R60). -/
theorem test_coil_done_opens_stations :
    let s := (lending [3] 0 0 (withExit (.coilDone 7#32) rolling)).mapStations (fun x => { x with closedCoil := some 7#32 })
    (s.station 1).closedCoil = some 7#32 ∧
      after .recordWrite s (fun u => u.tracking.stations.all (fun x => x.closedCoil == none)) = some true := by
  decide +kernel

/-- The lowest word that fails is the first bad word: in a region of zeros the slot length, and a repeated gauge (R11). -/
theorem test_first_bad_word :
    firstBadWord State.reset.port.mem = some 0 ∧
      firstBadWord (adoptingFrom (validWords ++ [(0x04, 4#32), (0x12, 0x21#32), (0x13, 0x21#32)]) State.reset).port.mem =
        some 0x13 := by decide +kernel

theorem test_witness_RecordWrite :
    let trip := lending [3] 10 1 (withEvent (atGroup 1 true rolling))
    let event := lending [3] 0 0 (withEvent rolling)
    let lastWords := lending [3] 61 5 (withEvent rolling)
    let alone := lending [3] 62 5 (withEvent rolling)
    let next := lending [3, 767] 62 5 (withEvent rolling)
    let item := lending [3] 0 0 (withExit (.segment { coil := 7#32, number := 1 }) rolling)
    let done := lending [3] 0 0 (withExit (.coilDone 7#32) rolling)
    trip.nextRecord = some (.trip 1) ∧ (trip.recordWords (.trip 1)).length = 5 ∧
      event.nextRecord = some (.event (.warning 0 0 0#32)) ∧
      lastWords.reports.wordCount + (lastWords.recordWords (.event (.warning 0 0 0#32))).length = 63 ∧
      63 < alone.reports.wordCount + (alone.recordWords (.event (.warning 0 0 0#32))).length ∧
      alone.reports.lent = [3] ∧ next.reports.lent = [3, 767] ∧
      item.nextRecord = some (.segment { coil := 7#32, number := 1 }) ∧ done.nextRecord = some (.coilDone 7#32) ∧
      Memory.wf trip.port.mem = true := by decide +kernel

/-- The words of a COIL DONE record against its format (R179). -/
theorem test_coil_done_words :
    (rolling.recordWords (.coilDone 7#32)).map BitVec.toNat = [2 + 256 * 3, 7, 4] ∧
      (coil7 .rolling).segCount < 256 ∧ (coil7 .rolling).reported < 256 ∧ (coil7 .rolling).shortened < 256 := by
  decide +kernel

/-- A TRIP record of two struck stands, and the words of its format (R179). -/
theorem test_trip_words :
    let r := rolling.latchedGroup { Group.fresh with config := { GroupConfig.fresh with stands := 3#8 } } 9 [9]
    r.snapshot.length = 2 ∧ snapNumber r.snapshot 1 = 2 ∧
      (tripRecord 4 r).map BitVec.toNat =
        [3 + 256 * 9, 4 + 256 * 9 + 65536 * 3 + 16777216 * 2, 0, 2, 0, 7, 65535 + 65536 * 65535, 0, 65535 + 65536 * 65535] := by
  decide +kernel

/-! ### The stand bus -/

/-- s with a slot timer and slots since last grant 0 for both drives. -/
def slotted (s : State) : State :=
  let t := (s.onDrive 1 (fun d => { d with sinceGrant := 0 })).onDrive 2 (fun d => { d with sinceGrant := 0 })
  t.setBus { t.bus with slotTimer := some 7#32 }

/-- s with burst owner o. -/
def owned (o : Nat) (s : State) : State := s.setBus { s.bus with owner := some o }

theorem test_witness_ArbiterDecides :
    let s := slotted rolling
    let both := atRamp 1 (rampOf 0 0) (atRamp 2 (rampOf 0 0) s)
    s.requesters = [] ∧ s.arbitrate.winner = none ∧
      (atChannel 2 .opening both).arbitrate.winner = some 2 ∧
      (owned 1 (atRamp 1 (rampOf 0 0) s)).arbitrate.winner = some 1 ∧
      (owned 1 both).arbitrate.winner = some 2 ∧ num (owned 1 both).arbitrate.waits 1 = none ∧
      both.arbitrate.winner = some 1 := by decide +kernel

theorem test_witness_SlotBegins :
    let s := slotted rolling
    rolling.bus.slotTimer = none ∧ s.bus.slotTimer = some 7#32 ∧ s.missedDrive = none ∧ s.arbitrate.winner = none ∧
      (atChannel 1 .opening s).arbitrate.winner = some 1 ∧ (atChannel 1 .opening s).request 1 = .opening ∧
      (atRamp 1 (rampOf 0 0) s).arbitrate.winner = some 1 ∧ (atRamp 1 (rampOf 0 0) s).request 1 = .step ∧
      (s.onDrive 2 (fun d => { d with sinceGrant := 64 })).arbitrate.winner = some 2 ∧
      (s.onDrive 2 (fun d => { d with sinceGrant := 64 })).request 2 = .poll := by decide +kernel

theorem test_witness_SetpointWithinLimits :
    let s := slotted (atRamp 1 (rampOf 0 0) rolling)
    s.bus.slotTimer = some 7#32 ∧
      after (.slotTimerExpiry false) s (fun u => u.bus.slot) =
        some (some { request := some (1, .setpoint 1 2250), decided := none }) ∧
      (s.standSettings 1).gapMin ≤ (s.standSettings 1).gapMax := by decide +kernel

theorem test_witness_StepSent :
    let s := slotted rolling
    let corrects := s.onChannel 2 (fun c => { c with effective := 2100 })
    let first := atRamp 1 (rampOf 0 0) s
    let last := atRamp 1 (rampOf 3 0) s
    first.arbitrate.winner = some 1 ∧ first.request 1 = .step ∧ first.missedDrive = none ∧
      (rampOf 0 0).sent + 1 ≠ (rampOf 0 0).steps ∧ last.arbitrate.winner = some 1 ∧ last.request 1 = .step ∧
      (rampOf 3 0).sent + 1 = (rampOf 3 0).steps ∧ corrects.arbitrate.winner = some 2 ∧ corrects.request 2 = .step ∧
      (corrects.channel 2).state = .idle ∧ (corrects.channel 2).ramp = none := by decide +kernel

/-- s with the slot in progress polling drive k. -/
def polling (k : Nat) (o : Option SlotOutcome) (s : State) : State :=
  s.setBus { s.bus with slotTimer := some 7#32, slot := some { request := some (k, .poll k), decided := o } }

theorem test_witness_MissedReply :
    let s := polling 2 none rolling
    s.bus.slot = some { request := some (2, .poll 2), decided := none } ∧ s.standCount = 2 ∧ (s.drive 2).missed = 0 ∧
      ((s.onDrive 2 (fun d => { d with missed := 2 })).drive 2).missed = 2 ∧ (s.drive 2).answering ≠ .lost := by
  decide +kernel

/-- A reply of drive k with every flag clear. -/
def replyOf (k gap : Nat) : ReplyFrame where
  address := BitVec.ofNat 4 k
  actualGap := BitVec.ofNat 16 gap
  force := 0#16
  lengthCount := 5#16
  ready := false
  loaded := false
  following := false
  opened := false
  fault := false

theorem test_witness_BusFrameDecides :
    let s := polling 2 none rolling
    s.bus.slot = some { request := some (2, .poll 2), decided := none } ∧ 2 ≤ s.standCount ∧
      (replyOf 2 60001).inRange = false ∧ (replyOf 1 60000).inRange = true ∧ (replyOf 1 60000).address.toNat ≠ 2 ∧
      (polling 2 (some .good) rolling).bus.slot = some { request := some (2, .poll 2), decided := some .good } ∧
      (polling 3 none rolling).standCount < 3 ∧ rolling.bus.slot = none := by decide +kernel

theorem test_witness_ReplyTaken :
    let s := polling 2 none (mill .ready)
    let lost := s.onDrive 2 (fun d => { d with answering := .lost })
    s.bus.slot = some { request := some (2, .poll 2), decided := none } ∧ 2 ≤ s.standCount ∧
      (replyOf 2 60000).inRange = true ∧ (replyOf 2 60000).address.toNat = 2 ∧ (lost.drive 2).answering = .lost ∧
      (lost.drive 2).good = 0 ∧ ((lost.onDrive 2 (fun d => { d with good := 1 })).drive 2).good = 1 ∧
      (s.drive 2).answering = .unknown ∧ s.orders.mill ≠ .armed := by decide +kernel

/-- Drive 1 is polled with a delta of d to come; replies of drive 1 with LOADED clear and set. -/
def fed (d : Nat) (s : State) : State := polling 1 none (based 1 d s)

theorem test_witness_ReplyTaken_passing :
    (fed 190 rolling).trackingSound ∧ (fed 190 rolling).stationsOf 1 = [1, 2] ∧
      (fed 190 rolling).deltaOf 1 (replyOf 1 0) = some 190 ∧
      ((fed 190 rolling).passing 1 (some 190)).map (fun x => x.key.number) = [2, 3] ∧
      (fed 50 rolling).passing 1 (some 50) = [] ∧ (replyOf 1 0).loaded = false ∧
      (rolling.station 1).loaded = false :=
  ⟨plantSound_tracking (by decide +kernel) rfl, by decide +kernel, by decide +kernel, by decide +kernel,
    by decide +kernel, rfl, by decide +kernel⟩

theorem test_witness_ReplyTaken_overrun :
    let s := fed 20 (atStation 1 (.tailDrain 7#32 true 90) (mill .armed))
    s.trackingSound ∧ s.overruns 1 (some 20) ∧ s.reports.queue.length + (s.stationsOf 1).length ≤ 16 ∧
      (s.mapEntry 60).masked = false ∧ (s.mapEntry 60).group = 1 :=
  ⟨plantSound_tracking (by decide +kernel) rfl, ⟨by decide +kernel, 7#32, 90, 20, by decide +kernel, rfl, by decide +kernel⟩,
    by decide +kernel, by decide +kernel, by decide +kernel⟩

theorem test_witness_ReplyTaken_loads :
    let head := fed 0 (withStrip .announced [[seg 1, seg 2, seg 3, seg 4], [], [], []] (mill .armed))
    let tail := fed 20 (loadedAt 1 rolling)
    let awaited := fed 20 (loadedAt 1 (atStation 1 (.awaiting 7#32) (withStrip .rolling [[], [seg 1], [], []] (mill .armed))))
    (head.trackingSound ∧ (head.station 1).form = .empty ∧ (head.station 1).loaded = false ∧ head.span 0 ≠ [] ∧
      (fed 0 (mill .armed)).trackingSound ∧ (fed 0 (mill .armed)).span 0 = [] ∧
      { replyOf 1 0 with loaded := true }.inRange = true) ∧
    (tail.trackingSound ∧ (tail.station 1).loaded = true ∧
      tail.formAfter 1 (some 20) = .threaded { coil := 7#32, number := 2 } 30) ∧
    (awaited.trackingSound ∧ (awaited.station 1).loaded = true ∧ (awaited.station 1).form = .awaiting 7#32) :=
  ⟨⟨plantSound_tracking (by decide +kernel) rfl, by decide +kernel, by decide +kernel, by decide +kernel,
      plantSound_tracking (by decide +kernel) rfl, by decide +kernel, by decide +kernel⟩,
    ⟨plantSound_tracking (by decide +kernel) rfl, by decide +kernel, by decide +kernel⟩,
    plantSound_tracking (by decide +kernel) rfl, by decide +kernel, by decide +kernel⟩

/-- Segment 1 of coil 7, measured twice by gauge 1. -/
def measured : Segment :=
  { seg 1 with meas := upd (seg 1).meas 1 (fun m => { m with count := 2, sum := 200, range := some (100, 100) }) }

theorem test_witness_ChannelTakesReply_tracked :
    let head := fed 0 (withStrip .announced [[seg 1, seg 2, seg 3, seg 4], [], [], []] (mill .armed))
    let gauge := fed 95 (atStation 2 (.threaded { coil := 7#32, number := 1 } 10)
      (withStrip .rolling [[], [measured], [], []] (mill .armed)))
    (head.trackingSound ∧ (head.stationsOf 1).all (fun j => (head.passing j (some 0)).isEmpty) = true ∧
      (head.stationsOf 1).all (fun j => (head.station j).form == .empty) = true) ∧
    (gauge.trackingSound ∧ gauge.segmentKeys.Nodup ∧ gauge.stationsOf 1 = [1, 2] ∧ gauge.passing 1 (some 95) = [] ∧
      gauge.passing 2 (some 95) = [measured] ∧ (gauge.station 2).kind = .gauge 1 ∧
      (gauge.gaugeSettings 1).minimumCount ≤ (num measured.meas 1).count ∧ (gauge.channel 1).state = .idle ∧
      ((gauge.replyTracked 1 (replyOf 1 0)).channel 1).feedback = -80) :=
  ⟨⟨plantSound_tracking (by decide +kernel) rfl, by decide +kernel, by decide +kernel⟩,
    plantSound_tracking (by decide +kernel) rfl, by decide +kernel, by decide +kernel, by decide +kernel,
    by decide +kernel, by decide +kernel, by decide +kernel, by decide +kernel, by decide +kernel⟩

theorem test_witness_ChannelTakesReply :
    let s := polling 2 none (mill .ready)
    (s.drive 2).answering ≠ .lost ∧ (replyOf 2 0).fault = false ∧ (s.channel 2).state = .idle ∧
      ((atChannel 2 .recovering s).channel 2).state = .recovering ∧ { replyOf 2 0 with ready := true }.inRange = true ∧
      ((atChannel 2 .opening s).channel 2).state = .opening ∧ { replyOf 2 0 with opened := true }.inRange = true ∧
      ((atRamp 2 (rampOf 1 6) s).channel 2).ramp = some (rampOf 1 6) ∧ (rampOf 1 6).notFollowing < 7 ∧
      ((atRamp 2 (rampOf 1 7) s).channel 2).ramp = some (rampOf 1 7) ∧ 7 ≤ (rampOf 1 7).notFollowing ∧
      { replyOf 2 0 with following := true }.inRange = true := by decide +kernel

/-! ### Tracking and gauges -/

/-- s with gauge 1 one sample short of a change of presence. -/
def nearly (present : Bool) (s : State) : State := s.onGauge 1 (fun r => { r with debounce := 2, present := !present })

theorem test_witness_StripHeadAndEarlyTail :
    let s := nearly true (withStrip .rolling strip (mill .armed))
    s.gaugeOnLink 1 = some 1 ∧ (s.gauge 1).state = .ready ∧ (s.gauge 1).station = some 2 ∧ (s.gauge 1).debounce = 2 ∧
      (s.gauge 1).present = false ∧ s.orders.mill = .armed ∧ s.tracking.stations.length = s.stationCount ∧
      (s.station 2).transparent = false ∧ (s.station 2).form = .empty ∧ s.span 1 = [seg 1] ∧
      (nearly true (mill .armed)).span 1 = [] ∧ ((nearly false rolling).gauge 1).present = true ∧
      ((nearly false rolling).station 2).form = .threaded { coil := 7#32, number := 1 } 10 := by decide +kernel

theorem test_witness_announcements :
    let s := atPlans 2 [planOf 1 false] (withStrip .rolling [[], [], [measured], []] (mill .armed))
    let key : SegKey := { coil := 7#32, number := 1 }
    s.stationOfStand 2 = 3 ∧ (s.station 2).kind = .gauge 1 ∧ (s.segment key).map (fun x => num x.meas 1) = some (num measured.meas 1) ∧
      (s.channel 2).plans.find? (fun x => !x.due && x.key == key) = some (planOf 1 false) ∧
      (s.channel 2).state = .idle ∧ ((s.announce (.biteEntry 2 key)).channel 2).feedForward = -10 ∧
      ((s.announce (.standPassage 2 key)).channel 2).plansLapsed = 1 ∧
      ((s.announce (.gaugePassage 1 1 key .normal)).channel 1).feedback = -80 := by decide +kernel

theorem test_witness_StripConserved_settled :
    let waiting := withStrip .announced [[seg 1, seg 2, seg 3, seg 4], [], [], []] (mill .armed)
    rolling.trackingSound ∧ rolling.segmentKeys.Nodup ∧ (mill .armed).trackingSound ∧
      ((mill .armed).station 1).closedCoil = none ∧ ((mill .armed).station 1).form = .empty ∧
      ((mill .armed).station 1).transparent = false ∧ (mill .armed).tracking.spans.flatten = [] ∧
      waiting.trackingSound ∧ (waiting.freeSegments 7#32).trackingSound ∧
      waiting.tracking.coils.toList.filterMap id = [coil7 .announced] :=
  ⟨plantSound_tracking (by decide +kernel) rfl, by decide +kernel, plantSound_tracking (by decide +kernel) rfl,
    by decide +kernel, by decide +kernel, by decide +kernel, by decide +kernel, plantSound_tracking (by decide +kernel) rfl,
    plantSound_tracking (by decide +kernel) rfl, by decide +kernel⟩

/-- A coil that waits in span 0 before an empty mill. -/
def beforeMill : State := withStrip .announced [[seg 1, seg 2, seg 3, seg 4], [], [], []] (mill .armed)

theorem beforeMill_span : ∀ j, 1 ≤ j → beforeMill.span j = []
  | 1, _ => rfl
  | 2, _ => rfl
  | 3, _ => rfl
  | _ + 4, _ => rfl

theorem test_witness_StripConserved_withdrawn :
    beforeMill.announcedWait ∧ (beforeMill.coilById 7#32).map Coil.state = some .announced ∧ beforeMill.span 0 ≠ [] :=
  ⟨⟨fun _ _ _ _ =>
      ⟨fun j x hj hx => absurd (beforeMill_span j hj ▸ hx) List.not_mem_nil,
        fun t b ht hb => by
          have h : ∀ t ∈ beforeMill.tracking.stations, t.bite = none := by decide +kernel
          rw [h t ht] at hb
          cases hb⟩,
    by decide +kernel⟩, by decide +kernel, by decide +kernel⟩

theorem test_witness_StripConserved :
    (mill .armed).spansStand ∧ (mill .armed).orders.tables ≠ none ∧
      completesOn (.reply (replyOf 2 0)) (mill .armed) = true ∧ completesOn (.gaugeSample 0 0#16 true false) (mill .armed) = true ∧
      completesOn (.slotTimerExpiry false) (mill .armed) = true ∧ completesOn .advanceStation (mill .armed) = true ∧
      completesOn .omitGauge (mill .armed) = true := by
  refine ⟨plant_spansStand _, ?_⟩
  decide +kernel

theorem test_witness_GaugeSample :
    (mill .ready).gaugeOnLink 1 = some 1 ∧ (mill .ready).gaugeOnLink 4 = none ∧ ((mill .ready).gauge 1).state = .ready ∧
      [GaugeState.waiting, .standardising, .shuttered, .fault, .silent, .omitted].all
        (fun x => ((atGauge x (mill .ready)).gauge 1).state == x && (atGauge x (mill .ready)).gaugeOnLink 1 == some 1) =
          true ∧
      (rolling.gauge 1).station = some 2 ∧ (rolling.station 2).form = .threaded { coil := 7#32, number := 1 } 10 ∧
      rolling.coilById 7#32 = some (coil7 .rolling) ∧ rolling.gaugeOnLink 1 = some 1 ∧
      after (.gaugeSample 0 3050#16 true false) rolling
        (fun u => (u.segment { coil := 7#32, number := 1 }).map (fun x => ((num x.meas 1).count, (num x.meas 1).sum))) =
          some (some (1, 50)) := by decide +kernel

/-- A SAMPLE that returns a SILENT gauge to READY raises its record and WARNING (R71, R72). -/
theorem test_silent_gauge_returns :
    after (.gaugeSample 0 3050#16 true false) (atGauge .silent (mill .ready))
      (fun u => (u.attentionIs .warning, u.reports.queue)) = some (true, [.gauge 1 .ready 0#32]) := by decide +kernel

theorem test_witness_GaugeStateFrame :
    (mill .ready).gaugeOnLink 1 = some 1 ∧ ((mill .ready).gauge 1).state ≠ .omitted ∧
      ((mill .ready).gauge 1).state ≠ .absent ∧ ((atGauge .silent (mill .ready)).gauge 1).state = .silent ∧
      ((atGauge .omitted (mill .ready)).gauge 1).state = .omitted := by decide +kernel

theorem test_witness_GaugeTimersAndBadFrames :
    let timing := (atGauge .standardising (mill .ready)).onGauge 1 (fun r => { r with standardise := some 4#32 })
    (State.reset.gauge 4).silence = none ∧ (State.reset.gauge 4).standardise = none ∧
      ((mill .ready).gauge 1).silence = some 9#32 ∧ ((mill .ready).gauge 1).state ≠ .silent ∧
      (timing.gauge 1).standardise = some 4#32 ∧ (timing.gauge 1).state = .standardising := by decide +kernel

/-! ### Protection links -/

/-- s with link l UP. -/
def linkUp (l : Nat) (s : State) : State := s.onLink l (fun r => { r with up := true, loss := some 8#32 })

theorem test_witness_ProtectionFrames :
    (num rolling.protection.links 4).up = false ∧ (num (linkUp 4 rolling).protection.links 4).up = true ∧
      (linkUp 4 rolling).asserted 47 = true ∧ ((linkUp 4 rolling).setSource 47 false).asserted 47 = false ∧
      rolling.orders.mill ≠ .unconfigured ∧ State.reset.orders.mill = .unconfigured := by decide +kernel

theorem test_witness_LinkLoss :
    let s := (linkUp 1 rolling).setSource 0 false
    (num rolling.protection.links 1).loss = none ∧ (num s.protection.links 1).loss = some 8#32 ∧ s.asserted 0 = false ∧
      (s.mapEntry 0).masked = false ∧ (s.mapEntry 0).group = 1 ∧ (s.group 1).latched = false ∧ (s.group 2).latched = false ∧
      ((atGroup 1 false s).group 1).latched = true ∧ s.orders.mill ≠ .unconfigured := by decide +kernel

theorem test_witness_FramesRoundTrip : lastReply.inRange = true ∧ { lastReply with address := 1#4 }.inRange = true := by decide

/-! ### What every step keeps -/

/-- A state after a reset with a frame waiting. -/
def waiting : State := State.reset.setPending [.heartbeat 0]

/-- The step of that state. -/
theorem waiting_steps : ∃ u, step waiting = .next u := ⟨_, rfl⟩

theorem test_witness_MemoryStaysCanonical : waiting.memoryCanonical ∧ ∃ u, step waiting = .next u := ⟨rfl, waiting_steps⟩

theorem test_witness_PublishedStateFollows :
    waiting.settle.recordsShow ∧ waiting.settle.linesFollow ∧ ∃ u, step waiting.settle = .next u := by
  refine ⟨State.settle_recordsShow _, ⟨?_, ?_⟩, ⟨_, rfl⟩⟩
  · intro k h1 h8
    have hk : k = 1 ∨ k = 2 ∨ k = 3 ∨ k = 4 ∨ k = 5 ∨ k = 6 ∨ k = 7 ∨ k = 8 := by omega
    constructor
    · intro h
      rcases hk with rfl | rfl | rfl | rfl | rfl | rfl | rfl | rfl <;> exact absurd h (by decide +kernel)
    · exact fun h => absurd rfl h.1
  · exact ⟨fun h => absurd h (by decide +kernel), fun h => absurd rfl h.1⟩

/-- A group of the state after a reset. -/
theorem waiting_group (g : Nat) (hg : g < 16) : waiting.group g = Group.fresh := by
  have hk : g = 0 ∨ g = 1 ∨ g = 2 ∨ g = 3 ∨ g = 4 ∨ g = 5 ∨ g = 6 ∨ g = 7 ∨ g = 8 ∨ g = 9 ∨ g = 10 ∨ g = 11 ∨ g = 12 ∨
    g = 13 ∨ g = 14 ∨ g = 15 := by omega
  rcases hk with rfl | rfl | rfl | rfl | rfl | rfl | rfl | rfl | rfl | rfl | rfl | rfl | rfl | rfl | rfl | rfl <;> rfl

/-- A gauge of the state after a reset. -/
theorem waiting_gauge (g : Nat) (h1 : 1 ≤ g) (h4 : g ≤ 4) : waiting.gauge g = Gauge.fresh := by
  show num (Vector.replicate 4 Gauge.fresh) g = _
  simp [num, show 0 < g from h1, h4]

theorem test_witness_BooksKept :
    waiting.queuesWithin ∧ waiting.tablesStand ∧ waiting.tablesInRange ∧ waiting.groupsLegal ∧ waiting.spansStand ∧
      waiting.stationsFollow ∧ waiting.gaugesStand ∧ ∃ u, step waiting = .next u := by
  refine ⟨⟨by decide +kernel, by decide +kernel, by decide +kernel⟩, ⟨⟨fun _ => rfl, fun _ => rfl⟩, fun h => absurd rfl h⟩,
    (fun t h => nomatch h), ?_, ⟨rfl, fun h => absurd rfl h, ?_⟩, (fun t h => nomatch h), ?_, waiting_steps⟩
  · intro g hg
    rw [waiting_group g hg]
    exact ⟨(fun h => nomatch h), fun _ => ⟨rfl, rfl, rfl, rfl, rfl⟩⟩
  · intro g h1 h4 h
    rw [waiting_gauge g h1 h4] at h
    exact absurd rfl h
  · intro g h1 h4
    rw [waiting_gauge g h1 h4]
    exact ⟨⟨fun _ h => (nomatch h), fun _ => rfl⟩, fun _ => ⟨rfl, rfl⟩, fun t h => (nomatch h)⟩

theorem test_witness_SourcesFollowOwners :
    waiting.slotLegal ∧ waiting.sourcesFollow ∧ ∃ u, step waiting = .next u := by
  refine ⟨(fun x k f h => nomatch h), ⟨?_, ?_, by decide +kernel, by decide +kernel⟩, waiting_steps⟩
  · intro k h1 h8
    have hk : k = 1 ∨ k = 2 ∨ k = 3 ∨ k = 4 ∨ k = 5 ∨ k = 6 ∨ k = 7 ∨ k = 8 := by omega
    constructor
    · intro h
      rcases hk with rfl | rfl | rfl | rfl | rfl | rfl | rfl | rfl <;> exact absurd h (by decide +kernel)
    · intro h
      rcases hk with rfl | rfl | rfl | rfl | rfl | rfl | rfl | rfl <;>
        rcases h with h | ⟨r, h, _⟩ <;> exact nomatch h
  · intro g h1 h4
    have hg : g = 1 ∨ g = 2 ∨ g = 3 ∨ g = 4 := by omega
    constructor
    · intro h
      rcases hg with rfl | rfl | rfl | rfl <;> exact absurd h (by decide +kernel)
    · intro h
      rcases hg with rfl | rfl | rfl | rfl <;> rcases h with h | h <;> exact nomatch h

/-- A channel of the state after a reset. -/
theorem waiting_channel (k : Nat) (h1 : 1 ≤ k) (h8 : k ≤ 8) : waiting.channel k = Channel.fresh := by
  show num (Vector.replicate 8 Channel.fresh) k = _
  simp [num, show 0 < k from h1, h8]

theorem test_witness_ChannelsFollowPlans :
    waiting.channelsLegal ∧ waiting.targetsFollow ∧ ∃ u, step waiting = .next u := by
  refine ⟨?_, ?_, waiting_steps⟩
  · intro k h1 h8
    rw [waiting_channel k h1 h8]
    exact ⟨⟨fun h => absurd rfl h, fun h => nomatch h⟩, fun _ _ => ⟨rfl, rfl, rfl, rfl⟩⟩
  · intro k h1 h8 h
    rw [waiting_channel k h1 h8] at h
    exact h.elim (fun h => nomatch h) (fun h => nomatch h)

theorem test_witness_StruckStandsStayOpen :
    waiting.layoutStands ∧ waiting.struckOpen ∧ ∃ u, step waiting = .next u := by
  have hg := waiting_group
  refine ⟨⟨?_, ?_⟩, ?_, waiting_steps⟩
  · intro k h1 h8
    rw [waiting_channel k h1 h8]
    exact ⟨fun h => absurd rfl h, fun h => absurd (Nat.le_trans h1 h) (by decide)⟩
  · intro g hlt k h1 h8 _
    rw [hg g hlt]
    have hz : holds Group.fresh.config.stands k = false := by simp [holds, Group.fresh, GroupConfig.fresh]
    exact ⟨(fun h => nomatch h), fun _ => hz, hz⟩
  · intro k h1 h8
    rw [waiting_channel k h1 h8]
    constructor
    · exact fun h => h.elim (fun h => nomatch h) (fun h => nomatch h)
    · rintro ⟨g, hlt, hl, -⟩
      rw [hg g hlt] at hl
      exact nomatch hl

end Sys2Proof.Tests
end

section
/-! SUPPORT. The gauge state machine of the Gauge Link Unit (R67, R68, R70, R71): what a level source, a latch and a change
of a gauge's state do and leave, said once. -/

namespace Sys2Proof.Machine

/-! ## Bits and numbered stores -/

/-- A written bit reads as written, every other bit as before. -/
theorem getLsbD_setBit {n : Nat} (x : BitVec n) {i : Nat} (b : Bool) (j : Nat) (hi : i < n) :
    (setBit x i b).getLsbD j = if j = i then b else x.getLsbD j := by
  by_cases hj : j = i
  · subst hj
    cases b <;> simp [setBit, hi]
  · have hne : ¬ i = j := fun h => hj h.symm
    cases b
    · simpa [setBit, hj, hne] using fun hx => BitVec.lt_of_getLsbD hx
    · simp [setBit, hj, hne]

/-- Writing the value that a bit has changes nothing. -/
theorem setBit_getLsbD_self {n : Nat} (x : BitVec n) {i : Nat} (hi : i < n) : setBit x i (x.getLsbD i) = x := by
  refine BitVec.eq_of_getLsbD_eq (fun j _ => ?_)
  rw [getLsbD_setBit x _ j hi]
  split
  · next h => rw [h]
  · rfl

/-- The numbers of `upTo n` are 1 to n. -/
theorem mem_upTo {n k : Nat} : k ∈ upTo n ↔ 1 ≤ k ∧ k ≤ n := by
  simp only [upTo, List.mem_map, List.mem_range]
  constructor
  · rintro ⟨a, ha, rfl⟩
    omega
  · rintro ⟨h1, hn⟩
    exact ⟨k - 1, by omega, by omega⟩

/-- A fold of steps that keep a part of the state keeps that part. -/
theorem State.part_foldl {α β : Type} (part : State → β) (f : State → α → State) (hf : ∀ s a, part (f s a) = part s)
    (l : List α) (s : State) : part (l.foldl f s) = part s := by
  induction l generalizing s with
  | nil => rfl
  | cons a l ih => rw [List.foldl_cons, ih, hf]

/-! ## Attention and the holding queue -/

@[simp] theorem State.raise_reports (s : State) (a : Attention) : (s.raise a).reports = s.reports := rfl
@[simp] theorem State.raise_tracking (s : State) (a : Attention) : (s.raise a).tracking = s.tracking := rfl
@[simp] theorem State.settle_attentionIs (s : State) (a : Attention) : s.settle.attentionIs a = s.attentionIs a := rfl

/-- The event of an attention bit sets it (R150). -/
theorem State.raise_attentionIs_self (s : State) (a : Attention) : (s.raise a).attentionIs a = true := by
  simp [(State.raise_attention s a).1 a]

/-- A record joins a holding queue that has room (R172). -/
theorem State.mem_pushEvent_queue (s : State) (e : EventRecord) (h : s.reports.queue.length < 16) :
    e ∈ (s.pushEvent e).reports.queue := by
  have hroom : s.reports.queue.length < Config.holdingPlaces := h
  simp [State.pushEvent, hroom, State.publish]

/-- A record takes at most one place of the holding queue (R172). -/
theorem State.pushEvent_queue_length_le (s : State) (e : EventRecord) :
    (s.pushEvent e).reports.queue.length ≤ s.reports.queue.length + 1 := by
  unfold State.pushEvent
  dsimp only
  split
  · simp [State.publish]
  · simp [State.rewriteSlot]

@[simp] theorem State.pushEvent_tracking (s : State) (e : EventRecord) : (s.pushEvent e).tracking = s.tracking := by
  unfold State.pushEvent
  dsimp only
  split <;> rfl

/-! ## What a latch leaves of the Tracking Unit and of the Report Writer (R101, R132) -/

@[simp] theorem State.endOwnership_tracking (s : State) (k : Nat) : (s.endOwnership k).tracking = s.tracking := by
  unfold State.endOwnership
  split <;> rfl

@[simp] theorem State.endOwnership_reports (s : State) (k : Nat) : (s.endOwnership k).reports = s.reports := by
  unfold State.endOwnership
  split <;> rfl

@[simp] theorem State.strike_tracking (s : State) (k : Nat) : (s.strike k).tracking = s.tracking := by
  unfold State.strike
  split <;> simp [State.onChannel]

@[simp] theorem State.strike_reports (s : State) (k : Nat) : (s.strike k).reports = s.reports := by
  unfold State.strike
  split <;> simp [State.onChannel]

@[simp] theorem State.latch_tracking (s : State) (g x : Nat) (l : List Nat) : (s.latch g x l).tracking = s.tracking :=
  State.part_foldl (·.tracking) State.strike State.strike_tracking _ _

@[simp] theorem State.latch_reports (s : State) (g x : Nat) (l : List Nat) : (s.latch g x l).reports = s.reports :=
  State.part_foldl (·.reports) State.strike State.strike_reports _ _

/-! ## Assertions (R131) -/

@[simp] theorem State.assertInto_tracking (s : State) (x g : Nat) : (s.assertInto x g).tracking = s.tracking := by
  unfold State.assertInto
  split
  · rfl
  · simp

@[simp] theorem State.assertInto_reports (s : State) (x g : Nat) : (s.assertInto x g).reports = s.reports := by
  unfold State.assertInto
  split
  · rfl
  · simp

@[simp] theorem State.judge_tracking (s : State) (x : Nat) : (s.judge x).tracking = s.tracking := by
  unfold State.judge
  split
  · split <;> simp [State.warn]
  · rfl

/-- The judging of an assertion hands the holding queue at most the WARNING record of a masked source (R131). -/
theorem State.judge_queue_length_le (s : State) (x : Nat) :
    (s.judge x).reports.queue.length ≤ s.reports.queue.length + 1 := by
  unfold State.judge
  split
  · split
    · exact State.pushEvent_queue_length_le s _
    · simp
  · simp

/-! ## Level sources (R127) -/

/-- A level source takes the state it is given; what its judging changes lies outside the rest. -/
theorem State.setLevel_rest_eq (s : State) {x : Nat} (b : Bool) (hx : x < 62) :
    (s.setLevel x b).rest = (s.setSource x b).rest := by
  rw [State.setLevel_rest]
  split
  · next hb =>
    rw [hb, State.setSource, State.asserted, setBit_getLsbD_self _ hx]
    rfl
  · rfl

@[simp] theorem State.setLevel_tracking (s : State) (x : Nat) (b : Bool) : (s.setLevel x b).tracking = s.tracking := by
  unfold State.setLevel
  split
  · rfl
  · split <;> simp [State.setSource]

/-- A level source hands the holding queue at most one record. -/
theorem State.setLevel_queue_length_le (s : State) (x : Nat) (b : Bool) :
    (s.setLevel x b).reports.queue.length ≤ s.reports.queue.length + 1 := by
  unfold State.setLevel
  split
  · simp
  · split
    · exact State.judge_queue_length_le (s.setSource x true) x
    · simp [State.setSource]

/-- A deassertion is not judged: no record and no group changes. -/
theorem State.setLevel_false (s : State) (x : Nat) :
    (s.setLevel x false).reports = s.reports ∧ (s.setLevel x false).protection.groups = s.protection.groups := by
  unfold State.setLevel
  split <;> exact ⟨rfl, rfl⟩

/-! ## The host's side -/

/-- Ports with the same settled part differ in attention and messages alone. -/
theorem Port.eq_of_settled {p q : Port} (h : p.settled = q.settled) :
    p = { q with attention := p.attention, messagesSent := p.messagesSent } :=
  congrArg (fun r : Port => { r with attention := p.attention, messagesSent := p.messagesSent }) h

/-- A state with the rest of one that has the host's side of s keeps the host's side of s. -/
theorem State.hostSideKept_of_rest {s t u : State} (h : u.rest = t.rest) (horders : t.orders = s.orders)
    (hpending : t.pending = s.pending) (hport : t.port = s.port) : s.hostSideKept u := by
  have hsettled : u.port.settled = t.port.settled := congrArg (·.port) h
  exact ⟨(congrArg (·.orders) h).trans horders, (congrArg (·.pending) h).trans hpending,
    Port.eq_of_settled (hport ▸ hsettled)⟩

/-! ## Gauge records and sources -/

/-- A gauge that a link belongs to is one of gauges 1 to 4 (R63). -/
theorem State.gaugeOnLink_range {s : State} {l g : Nat} (h : s.gaugeOnLink l = some g) : 1 ≤ g ∧ g ≤ 4 :=
  mem_upTo.mp (List.mem_of_find?_eq_some h)

/-- A changed gauge record reads as changed. -/
theorem State.onGauge_gauge_self (s : State) {g : Nat} (f : Gauge → Gauge) (hg : 1 ≤ g ∧ g ≤ 4) :
    (s.onGauge g f).gauge g = f (s.gauge g) := num_upd_self _ f hg.1 hg.2

/-- Every other gauge record reads as before. -/
theorem State.onGauge_gauge_other (s : State) {g i : Nat} (f : Gauge → Gauge) (h : i ≠ g) :
    (s.onGauge g f).gauge i = s.gauge i := num_upd_other _ f h

/-- A source that is set reads as set, every other source as before. -/
theorem State.setSource_asserted (s : State) {x : Nat} (b : Bool) (y : Nat) (hx : x < 62) :
    (s.setSource x b).asserted y = if y = x then b else s.asserted y := getLsbD_setBit _ b y hx

/-- The gauge-lost source of a gauge is one of the 62 sources (R70). -/
theorem gaugeSource_lt {g : Nat} (hg : g ≤ 4) : gaugeSource g < 62 := by
  unfold gaugeSource
  omega

/-! ## A change of a gauge's state (R67 to R71) -/

/-- The record of gauge g has taken its new state; its source and the GAUGE EVENT record are still to be handed over. -/
def State.gaugeEnters (s : State) (g : Nat) (new : GaugeState) : State :=
  s.onGauge g (Gauge.change new (s.after (s.standardiseLimit g)))

/-- A gauge that is in the state already does not change. -/
theorem State.changeGauge_same {s : State} {g : Nat} {new : GaugeState} (h : (s.gauge g).state = new) :
    s.changeGauge g new = s := if_pos h

/-- A change of state hands over the source and then, where R71 asks for one, the GAUGE EVENT record. -/
theorem State.changeGauge_new {s : State} {g : Nat} {new : GaugeState} (h : (s.gauge g).state ≠ new) :
    s.changeGauge g new =
      if raisesGaugeEvent (s.gauge g).state new then
        ((s.gaugeEnters g new).setLevel (gaugeSource g) new.lost).gaugeEvent g new
      else (s.gaugeEnters g new).setLevel (gaugeSource g) new.lost := if_neg h

/-- A change of state leaves the rest of the state as the gauge record and its source make it. -/
theorem State.changeGauge_rest {s : State} {g : Nat} {new : GaugeState} (h : (s.gauge g).state ≠ new) (hg : g ≤ 4) :
    (s.changeGauge g new).rest = ((s.gaugeEnters g new).setSource (gaugeSource g) new.lost).rest := by
  rw [State.changeGauge_new h, ← State.setLevel_rest_eq _ _ (gaugeSource_lt hg)]
  split
  · simp [State.gaugeEvent]
  · rfl

/-- The gauge records after a change of state. -/
theorem State.changeGauge_gauges {s : State} {g : Nat} {new : GaugeState} (h : (s.gauge g).state ≠ new) (hg : g ≤ 4) :
    (s.changeGauge g new).gauges = (s.gaugeEnters g new).gauges :=
  congrArg (·.gauges) (State.changeGauge_rest h hg)

@[simp] theorem State.changeGauge_tracking (s : State) (g : Nat) (new : GaugeState) :
    (s.changeGauge g new).tracking = s.tracking := by
  unfold State.changeGauge
  dsimp only
  split
  · rfl
  · split <;> simp [State.gaugeEvent, State.onGauge]

@[simp] theorem State.changeGauge_gaugeLinks (s : State) {g : Nat} (new : GaugeState) (hg : g ≤ 4) :
    (s.changeGauge g new).gaugeLinks = s.gaugeLinks := by
  by_cases h : (s.gauge g).state = new
  · rw [State.changeGauge_same h]
  · exact congrArg (·.gaugeLinks) (State.changeGauge_rest h hg)

/-- No change of a gauge's state reaches the host's side but attention. -/
theorem State.changeGauge_hostSideKept (s : State) {g : Nat} (new : GaugeState) (hg : g ≤ 4) :
    s.hostSideKept (s.changeGauge g new) := by
  by_cases h : (s.gauge g).state = new
  · rw [State.changeGauge_same h]
    exact ⟨rfl, rfl, rfl⟩
  · exact State.hostSideKept_of_rest (State.changeGauge_rest h hg) rfl rfl rfl

/-- The record of a gauge that changes its state. -/
theorem State.changeGauge_gauge_self {s : State} {g : Nat} {new : GaugeState} (h : (s.gauge g).state ≠ new)
    (hg : 1 ≤ g ∧ g ≤ 4) :
    (s.changeGauge g new).gauge g = Gauge.change new (s.after (s.standardiseLimit g)) (s.gauge g) := by
  rw [State.gauge, State.changeGauge_gauges h hg.2]
  exact State.onGauge_gauge_self s _ hg

/-- A change of one gauge's state leaves the other gauges. -/
theorem State.changeGauge_gauge_other (s : State) {g i : Nat} (new : GaugeState) (hg : g ≤ 4) (hi : i ≠ g) :
    (s.changeGauge g new).gauge i = s.gauge i := by
  by_cases h : (s.gauge g).state = new
  · rw [State.changeGauge_same h]
  · rw [State.gauge, State.changeGauge_gauges h hg]
    exact State.onGauge_gauge_other s _ hi

/-- A change of state gives the gauge-lost source its state and leaves every other source (R70). -/
theorem State.changeGauge_asserted {s : State} {g : Nat} {new : GaugeState} (h : (s.gauge g).state ≠ new) (hg : g ≤ 4)
    (y : Nat) : (s.changeGauge g new).asserted y = if y = gaugeSource g then new.lost else s.asserted y := by
  have hsources := congrArg (·.protection.sources) (State.changeGauge_rest h hg)
  exact (congrArg (·.getLsbD y) hsources).trans (State.setSource_asserted _ new.lost y (gaugeSource_lt hg))

/-- A change that raises a GAUGE EVENT record sets WARNING, and the record joins the holding queue where a WARNING record
of the masked source leaves room for it (R71, R131). -/
theorem State.changeGauge_event {s : State} {g : Nat} {new : GaugeState} (h : (s.gauge g).state ≠ new)
    (hevent : raisesGaugeEvent (s.gauge g).state new = true) (hg : g ≤ 4) :
    (s.changeGauge g new).attentionIs .warning = true ∧
      (s.reports.queue.length < 15 → .gauge g new s.now ∈ (s.changeGauge g new).reports.queue) := by
  have hnow : ((s.gaugeEnters g new).setLevel (gaugeSource g) new.lost).now = s.now :=
    congrArg (·.clock.millTime) (State.setLevel_rest_eq (s.gaugeEnters g new) new.lost (gaugeSource_lt hg))
  have hqueue : ((s.gaugeEnters g new).setLevel (gaugeSource g) new.lost).reports.queue.length ≤
      s.reports.queue.length + 1 := State.setLevel_queue_length_le (s.gaugeEnters g new) _ _
  rw [State.changeGauge_new h, if_pos hevent, State.gaugeEvent, hnow]
  refine ⟨State.raise_attentionIs_self _ _, fun hroom => ?_⟩
  rw [State.raise_reports]
  exact State.mem_pushEvent_queue _ _ (by omega)

/-- A change that raises no record deasserts the source, which reports nothing and latches nothing (R70, R71). -/
theorem State.changeGauge_noEvent {s : State} {g : Nat} {new : GaugeState} (h : (s.gauge g).state ≠ new)
    (hevent : raisesGaugeEvent (s.gauge g).state new = false) :
    (s.changeGauge g new).reports = s.reports ∧
      (s.changeGauge g new).protection.groups = s.protection.groups := by
  have hlost : new.lost = false := (Bool.or_eq_false_iff.mp hevent).1
  rw [State.changeGauge_new h, if_neg (Bool.eq_false_iff.mp hevent), hlost]
  exact State.setLevel_false (s.gaugeEnters g new) (gaugeSource g)

/-! ## STATE frames (R64, R68) -/

/-- FAULT and SILENT are the states in which a gauge is lost (R70). -/
theorem GaugeState.lost_iff (x : GaugeState) : x.lost = true ↔ x = .fault ∨ x = .silent := by
  cases x <;> simp [GaugeState.lost]

/-- No STATE frame names SILENT. -/
theorem GaugeReport.state_ne_silent (r : GaugeReport) : GaugeReport.state r ≠ .silent := by
  cases r <;> simp [GaugeReport.state]

/-- Of the states that a STATE frame names, FAULT alone asserts the source. -/
theorem GaugeReport.state_lost (r : GaugeReport) : (GaugeReport.state r).lost = decide (GaugeReport.state r = .fault) := by
  cases r <;> rfl

/-- The entries by a STATE frame that R68 marks: to FAULT from another state, and to READY from FAULT or SILENT. -/
theorem markedEntry_iff (old : GaugeState) (r : GaugeReport) :
    (old ≠ GaugeReport.state r ∧ raisesGaugeEvent old (GaugeReport.state r) = true) ↔
      (GaugeReport.state r = .fault ∧ old ≠ .fault) ∨
        (GaugeReport.state r = .ready ∧ (old = .fault ∨ old = .silent)) := by
  simp only [raisesGaugeEvent, GaugeReport.state_lost, Bool.or_eq_true, Bool.and_eq_true, decide_eq_true_eq, beq_iff_eq,
    GaugeState.lost_iff]
  constructor
  · rintro ⟨hchange, hfault | ⟨hold, hready⟩⟩
    · exact .inl ⟨hfault, hfault ▸ hchange⟩
    · exact .inr ⟨hready, hold⟩
  · rintro (⟨hfault, hold⟩ | ⟨hready, hold⟩)
    · exact ⟨hfault ▸ hold, .inl hfault⟩
    · refine ⟨fun hsame => ?_, .inr ⟨hold, hready⟩⟩
      rcases hold with hold | hold <;> simp [hold, hready] at hsame

/-- An OMITTED gauge discards the frame. -/
theorem State.handState_omitted {s : State} {g : Nat} (r : GaugeReport) (h : (s.gauge g).state = .omitted) :
    s.handState g r = s.discardFrame g := by simp [State.handState, h]

/-- An ABSENT gauge is not reached by the frame. -/
theorem State.handState_absent {s : State} {g : Nat} (r : GaugeReport) (h : (s.gauge g).state = .absent) :
    s.handState g r = s := by simp [State.handState, h]

/-- A gauge in service restarts its silence timer and takes the state that the frame names. -/
theorem State.handState_inService {s : State} {g : Nat} (r : GaugeReport) (homitted : (s.gauge g).state ≠ .omitted)
    (habsent : (s.gauge g).state ≠ .absent) :
    s.handState g r = (s.restartSilence g).changeGauge g (GaugeReport.state r) := by
  unfold State.handState
  split
  · next h => exact absurd h homitted
  · next h => exact absurd h habsent
  all_goals rfl

/-- Whatever the gauge's state, a STATE frame handed to it leaves the other gauges, the host's side, the Tracking Unit and
the link counters. -/
theorem State.handState_frame (s : State) {g : Nat} (r : GaugeReport) (hg : g ≤ 4) :
    (∀ i, i ≠ g → (s.handState g r).gauge i = s.gauge i) ∧ s.hostSideKept (s.handState g r) ∧
      (s.handState g r).tracking = s.tracking ∧ (s.handState g r).gaugeLinks = s.gaugeLinks := by
  by_cases homitted : (s.gauge g).state = .omitted
  · rw [State.handState_omitted r homitted]
    exact ⟨fun i hi => State.onGauge_gauge_other s _ hi, ⟨rfl, rfl, rfl⟩, rfl, rfl⟩
  by_cases habsent : (s.gauge g).state = .absent
  · rw [State.handState_absent r habsent]
    exact ⟨fun _ _ => rfl, ⟨rfl, rfl, rfl⟩, rfl, rfl⟩
  rw [State.handState_inService r homitted habsent]
  refine ⟨fun i hi => ?_, ?_, ?_, ?_⟩
  · exact (State.changeGauge_gauge_other _ _ hg hi).trans (State.onGauge_gauge_other s _ hi)
  · exact State.changeGauge_hostSideKept (s.restartSilence g) _ hg
  · exact State.changeGauge_tracking (s.restartSilence g) g _
  · exact State.changeGauge_gaugeLinks (s.restartSilence g) _ hg

/-- The record of a gauge whose silence timer restarts (R67). -/
theorem State.restartSilence_gauge_self (s : State) {g : Nat} (hg : 1 ≤ g ∧ g ≤ 4) :
    (s.restartSilence g).gauge g = { s.gauge g with silence := some (s.after (s.silenceTime g)) } :=
  State.onGauge_gauge_self s _ hg

/-- The restart of the silence timer leaves the gauge's state. -/
theorem State.restartSilence_state (s : State) {g : Nat} (hg : 1 ≤ g ∧ g ≤ 4) :
    ((s.restartSilence g).gauge g).state = (s.gauge g).state := by rw [State.restartSilence_gauge_self s hg]

/-- The record of an OMITTED gauge after a STATE frame: the frame counts as discarded. -/
theorem State.handState_gauge_omitted {s : State} {g : Nat} (r : GaugeReport) (hg : 1 ≤ g ∧ g ≤ 4)
    (h : (s.gauge g).state = .omitted) :
    (s.handState g r).gauge g = { s.gauge g with discarded := bump (s.gauge g).discarded } := by
  rw [State.handState_omitted r h]
  exact State.onGauge_gauge_self s _ hg

/-- The record of a gauge in service after a STATE frame (R67, R68). -/
theorem State.handState_gauge {s : State} {g : Nat} (r : GaugeReport) (hg : 1 ≤ g ∧ g ≤ 4)
    (homitted : (s.gauge g).state ≠ .omitted) (habsent : (s.gauge g).state ≠ .absent) :
    (s.handState g r).gauge g = { s.gauge g with
      state := GaugeReport.state r
      silence := some (s.after (s.silenceTime g))
      standardise :=
        if GaugeReport.state r = (s.gauge g).state then (s.gauge g).standardise
        else if GaugeReport.state r = .standardising then some (s.after (s.standardiseLimit g))
        else none
      debounce := if (s.gauge g).state = .ready ∧ GaugeReport.state r ≠ .ready then 0 else (s.gauge g).debounce } := by
  rw [State.handState_inService r homitted habsent]
  by_cases hsame : (s.gauge g).state = GaugeReport.state r
  · rw [State.changeGauge_same (by rw [State.restartSilence_state s hg, hsame]), State.restartSilence_gauge_self s hg]
    simp [← hsame]
  · have hready : (s.gauge g).state = .ready → GaugeReport.state r ≠ .ready := fun h h' => hsame (h.trans h'.symm)
    have hne : GaugeReport.state r ≠ (s.gauge g).state := fun h => hsame h.symm
    rw [State.changeGauge_gauge_self (by rwa [State.restartSilence_state s hg]) hg, State.restartSilence_gauge_self s hg]
    have hlimit : (s.restartSilence g).after ((s.restartSilence g).standardiseLimit g) = s.after (s.standardiseLimit g) := rfl
    simp [Gauge.change, GaugeReport.state_ne_silent, hne, and_iff_left_of_imp hready, hlimit]

/-- The sources after a STATE frame handed to a gauge in service: its own follows a change of state, the others stay. -/
theorem State.handState_asserted {s : State} {g : Nat} (r : GaugeReport) (hg : 1 ≤ g ∧ g ≤ 4)
    (homitted : (s.gauge g).state ≠ .omitted) (habsent : (s.gauge g).state ≠ .absent) :
    (GaugeReport.state r ≠ (s.gauge g).state →
      (s.handState g r).asserted (gaugeSource g) = decide (GaugeReport.state r = .fault)) ∧
    ∀ y, y ≠ gaugeSource g → (s.handState g r).asserted y = s.asserted y := by
  rw [State.handState_inService r homitted habsent]
  by_cases hsame : (s.gauge g).state = GaugeReport.state r
  · rw [State.changeGauge_same (by rw [State.restartSilence_state s hg, hsame])]
    exact ⟨fun h => absurd hsame.symm h, fun _ _ => rfl⟩
  · have hchange := State.changeGauge_asserted (s := s.restartSilence g) (g := g) (new := GaugeReport.state r)
      (by rwa [State.restartSilence_state s hg]) hg.2
    refine ⟨fun _ => ?_, fun y hy => ?_⟩
    · rw [hchange, if_pos rfl, GaugeReport.state_lost]
    · rw [hchange, if_neg hy]
      rfl

/-- An entry marked † in R68 sets WARNING and hands over its GAUGE EVENT record. -/
theorem State.handState_markedEntry {s : State} {g : Nat} (r : GaugeReport) (hg : 1 ≤ g ∧ g ≤ 4)
    (homitted : (s.gauge g).state ≠ .omitted) (habsent : (s.gauge g).state ≠ .absent)
    (hmarked : (s.gauge g).state ≠ GaugeReport.state r ∧
      raisesGaugeEvent (s.gauge g).state (GaugeReport.state r) = true) :
    (s.handState g r).attentionIs .warning = true ∧
      (s.reports.queue.length < 15 → .gauge g (GaugeReport.state r) s.now ∈ (s.handState g r).reports.queue) := by
  rw [State.handState_inService r homitted habsent]
  rw [← State.restartSilence_state s hg] at hmarked
  exact State.changeGauge_event hmarked.1 hmarked.2 hg.2

/-- Every other entry reports nothing and latches nothing. -/
theorem State.handState_unmarkedEntry {s : State} {g : Nat} (r : GaugeReport) (hg : 1 ≤ g ∧ g ≤ 4)
    (homitted : (s.gauge g).state ≠ .omitted) (habsent : (s.gauge g).state ≠ .absent)
    (hunmarked : ¬ ((s.gauge g).state ≠ GaugeReport.state r ∧
      raisesGaugeEvent (s.gauge g).state (GaugeReport.state r) = true)) :
    (s.handState g r).reports = s.reports ∧ (s.handState g r).protection.groups = s.protection.groups := by
  rw [State.handState_inService r homitted habsent]
  rw [← State.restartSilence_state s hg] at hunmarked
  by_cases hsame : ((s.restartSilence g).gauge g).state = GaugeReport.state r
  · rw [State.changeGauge_same hsame]
    exact ⟨rfl, rfl⟩
  · exact State.changeGauge_noEvent hsame (Bool.eq_false_iff.mpr fun h => hunmarked ⟨hsame, h⟩)

/-! ## Frames on a gauge link (R63) -/

/-- A good frame on a gauge's link is counted and handed to the gauge. -/
theorem State.gaugeFrame_handed {s : State} {l g : Nat} (act : Nat → State → State) (h : s.gaugeOnLink l = some g) :
    s.gaugeFrame l act = act g (s.countGood l) := by simp [State.gaugeFrame, h]

/-- A good frame raises the good counter of its link. -/
theorem State.countGood_link (s : State) (link : Fin 4) :
    num (s.countGood (link + 1)).gaugeLinks (link + 1) =
      { num s.gaugeLinks (link + 1) with good := bump (num s.gaugeLinks (link + 1)).good } :=
  num_upd_self _ _ (by omega) (by omega)

/-- STATE on a link that belongs to gauge g hands the frame to it. -/
theorem exec_gaugeState_handed {s : State} {link : Fin 4} {g : Nat} (r : GaugeReport)
    (h : s.gaugeOnLink (link + 1) = some g) :
    exec (.gaugeState link r) s = .next ((s.countGood (link + 1)).handState g r).settle :=
  congrArg completes (State.gaugeFrame_handed _ h)

/-- Settles O49, by the table of R68: a gauge that is OMITTED, one in the state that the frame names already, and one that
changes its state. -/
theorem gaugeStateFrame : Obligations.GaugeStateFrame := by
  intro s link report g hlink r new event
  have hg := State.gaugeOnLink_range hlink
  obtain ⟨hothers, hhost, htracking, hlinks⟩ := State.handState_frame (s.countGood (link + 1)) report hg.2
  refine ⟨_, exec_gaugeState_handed report hlink, (congrArg (num · (link + 1)) hlinks).trans (State.countGood_link s link),
    hothers, hhost, htracking, fun homitted => ?_, fun homitted habsent => ?_⟩
  · exact State.handState_gauge_omitted (s := s.countGood (link + 1)) report hg homitted
  · have homitted' : ((s.countGood (link + 1)).gauge g).state ≠ .omitted := homitted
    have habsent' : ((s.countGood (link + 1)).gauge g).state ≠ .absent := habsent
    obtain ⟨hown, hother⟩ := State.handState_asserted report hg homitted' habsent'
    exact ⟨State.handState_gauge report hg homitted' habsent', hown, fun y _ => hother y,
      fun h => State.handState_markedEntry report hg homitted' habsent' ((markedEntry_iff r.state report).mpr h),
      fun h => State.handState_unmarkedEntry report hg homitted' habsent' (mt (markedEntry_iff r.state report).mp h)⟩

end Sys2Proof.Machine
end

section
/-! SUPPORT. The struck set of a latch (R133): what a set of stands holds, and the base and the extension read through it. -/

namespace Sys2Proof.Machine

/-! ## Sets of stands -/

/-- A bit set in a bit vector: an inner bit reads as set at that place, and as before elsewhere; a place past the width
sets nothing. -/
theorem getLsbD_setBit_true {n : Nat} (x : BitVec n) (i : Nat) {j : Nat} (hj : j < n) :
    (setBit x i true).getLsbD j = true ↔ x.getLsbD j = true ∨ i = j := by
  by_cases hi : i < n
  · rw [getLsbD_setBit x true j hi]
    by_cases h : j = i
    · simp [h]
    · simp [h, Ne.symm h]
  · have hne : i ≠ j := by omega
    simp [setBit, hi, hne]

/-- The bits after a list of stands has joined a set. -/
theorem getLsbD_foldl_setBit (l : List Nat) (x : BitVec 8) {j : Nat} (hj : j < 8) :
    (l.foldl (fun y i => setBit y (i - 1) true) x).getLsbD j = true ↔ x.getLsbD j = true ∨ ∃ i ∈ l, i - 1 = j := by
  induction l generalizing x with
  | nil => simp
  | cons a l ih =>
    rw [List.foldl_cons, ih, getLsbD_setBit_true x (a - 1) hj, or_assoc]
    simp only [List.mem_cons, exists_eq_or_imp]

/-- Stand k is in a set exactly when it has a bit and the bit is set. -/
theorem holds_iff {x : BitVec 8} {k : Nat} : holds x k = true ↔ 1 ≤ k ∧ x.getLsbD (k - 1) = true := by
  simp [holds]

/-- The set of listed stands holds just the stands listed. -/
theorem holds_standSet {l : List Nat} (hl : ∀ i ∈ l, 1 ≤ i) {k : Nat} (hk : k ≤ 8) :
    holds (standSet l) k = true ↔ k ∈ l := by
  rw [holds_iff]
  constructor
  · rintro ⟨h1, hbit⟩
    obtain hzero | ⟨i, hi, heq⟩ := (getLsbD_foldl_setBit l 0#8 (by omega)).mp hbit
    · simp at hzero
    · have hpos := hl i hi
      obtain rfl : i = k := by omega
      exact hi
  · intro hmem
    have h1 := hl k hmem
    exact ⟨h1, (getLsbD_foldl_setBit l 0#8 (by omega)).mpr (.inr ⟨k, hmem, rfl⟩)⟩

/-- The stands listed of a set are those that it holds. -/
theorem mem_standsOf {x : BitVec 8} {k : Nat} : k ∈ standsOf x ↔ k ≤ 8 ∧ holds x k = true := by
  rw [standsOf, List.mem_filter, mem_upTo, holds_iff]
  exact ⟨fun ⟨⟨_, h8⟩, h⟩ => ⟨h8, h⟩, fun ⟨h8, h⟩ => ⟨⟨h.1, h8⟩, h⟩⟩

/-! ## Base and extension (R133) -/

/-- The base holds the stands that R133 puts in it. -/
theorem State.holds_struckBase (s : State) (c : GroupConfig) {k : Nat} (hk : k ≤ 8) :
    holds (s.struckBase c) k = true ↔ s.inBase c k := by
  unfold State.struckBase State.inBase
  split
  · rw [holds_standSet (fun i hi => (mem_upTo.mp hi).1) hk, mem_upTo]
  · rfl

/-- The strip coils are the coils of the bites of the base stands. -/
theorem State.mem_stripCoils {s : State} {base : BitVec 8} {coil : Word} :
    coil ∈ s.stripCoils base ↔
      ∃ b x, b ≤ 8 ∧ holds base b = true ∧ s.biteOfStand b = some x ∧ x.coil = coil := by
  simp [State.stripCoils, mem_standsOf, and_assoc]

/-- An extended base holds its own stands and, of stands 1 to N, those with a bite of a strip coil. -/
theorem State.holds_extendStruck (s : State) (base : BitVec 8) {k : Nat} (h1 : 1 ≤ k) (hk : k ≤ 8) :
    holds (s.extendStruck base) k = true ↔
      holds base k = true ∨ (k ≤ s.standCount ∧ ∃ y, s.biteOfStand k = some y ∧ y.coil ∈ s.stripCoils base) := by
  unfold State.extendStruck
  rw [holds_standSet (fun i hi => (mem_upTo.mp (List.mem_filter.mp hi).1).1) hk, List.mem_filter, mem_upTo]
  cases hbite : s.biteOfStand k <;> simp [h1, hk]

/-- The extension of a latch's base adds the stands whose bite is of the coil of a base stand's bite. -/
theorem State.holds_extendStruck_struckBase (s : State) (c : GroupConfig) {k : Nat} (h1 : 1 ≤ k) (hk : k ≤ 8) :
    holds (s.extendStruck (s.struckBase c)) k = true ↔
      s.inBase c k ∨ (k ≤ s.standCount ∧
        ∃ b x y, b ≤ 8 ∧ s.inBase c b ∧ s.biteOfStand b = some x ∧ s.biteOfStand k = some y ∧ x.coil = y.coil) := by
  rw [s.holds_extendStruck _ h1 hk, s.holds_struckBase c hk]
  refine or_congr_right (and_congr_right fun _ => ?_)
  constructor
  · rintro ⟨y, hy, hcoil⟩
    obtain ⟨b, x, hb, hbase, hx, heq⟩ := State.mem_stripCoils.mp hcoil
    exact ⟨b, x, y, hb, (s.holds_struckBase c hb).mp hbase, hx, hy, heq⟩
  · rintro ⟨b, x, y, hb, hbase, hx, hy, heq⟩
    exact ⟨y, hy, State.mem_stripCoils.mpr ⟨b, x, hb, (s.holds_struckBase c hb).mpr hbase, hx, heq⟩⟩

/-- Settles O30, by the extend flag: a group that extends adds the stands of its strip coils, any other strikes its base. -/
theorem struckSet : Obligations.StruckSet := by
  intro s c k h1 hk
  unfold State.struckSet State.mustStrike
  dsimp only
  split
  · next hextend => simp only [s.holds_extendStruck_struckBase c h1 hk, hextend, true_and]
  · next hbase => simp [s.holds_struckBase c hk, hbase]

end Sys2Proof.Machine
end
